-- ==== Sys2Proof/Word.lean ====
section
/-! DEFINITION. The value types of 00_scope.md R9: `u8`, `u32` and `u64`. Every value is unsigned. -/

namespace Sys2Proof

/-- `u8` of 00_scope.md R9. -/
abbrev Byte := BitVec 8

/-- `u32` of 00_scope.md R9, the word of the algorithm and of a host register (`WORD_BITS`, `REG_BITS`). -/
abbrev Word := BitVec 32

/-- `u64` of 00_scope.md R9, the width of LEN, PLEN, NBLK and BLKIDX. -/
abbrev DWord := BitVec 64

end Sys2Proof
end

