-- ==== Sys2Proof/Machine/Bytes.lean ====
section
/-! DEFINITION. The packing primitives of 00_scope.md R11: every conversion between bytes and wider values is big-endian,
first byte most significant (20_memory.md R43). The arrays are irreducible to the elaborator, so that two states are compared
field by field and not byte by byte; the kernel evaluates them. -/

namespace Sys2Proof.Machine

/-- `be32` of 00_scope.md R11: four bytes as a big-endian word. -/
def be32 (b0 b1 b2 b3 : Byte) : Word :=
  (b0.zeroExtend 32 <<< 24) ||| (b1.zeroExtend 32 <<< 16) ||| (b2.zeroExtend 32 <<< 8) ||| b3.zeroExtend 32

/-- Byte j of `bytes32(w)`, j = 0 the most significant (00_scope.md R11). -/
def byteOfWord (w : Word) (j : Nat) : Byte := w.extractLsb' (24 - 8 * j) 8

/-- Byte j of `bytes64(v)`, j = 0 the most significant (00_scope.md R11). -/
def byteOfDWord (v : DWord) (j : Nat) : Byte := v.extractLsb' (56 - 8 * j) 8

/-- `bytes32` of 00_scope.md R11. -/
def bytes32 (w : Word) : List Byte := (List.range 4).map (byteOfWord w)

/-- `bytes64` of 00_scope.md R11. -/
def bytes64 (v : DWord) : List Byte := (List.range 8).map (byteOfDWord v)

/-- The word of four consecutive bytes of BLOCK, the lowest index in bits 31:24 (10_state.md R27). -/
def blockWord (b : Vector Byte 64) (k : Fin 16) : Word :=
  be32 (b[4 * k.val]) (b[4 * k.val + 1]) (b[4 * k.val + 2]) (b[4 * k.val + 3])

/-- The word of four consecutive bytes of DIGEST (10_state.md R29). -/
def digestWord (d : Vector Byte 32) (i : Fin 8) : Word :=
  be32 (d[4 * i.val]) (d[4 * i.val + 1]) (d[4 * i.val + 2]) (d[4 * i.val + 3])

/-- The bytes of eight words, each big-endian, in order: the arrangement of D in 43_serialization.md R92. -/
@[irreducible] def digestOfWords (h : Vector Word 8) : Vector Byte 32 :=
  Vector.ofFn fun k : Fin 32 => byteOfWord h[k.val / 4] (k.val % 4)

/-- The 64 bytes of sixteen words, each big-endian, in order. -/
@[irreducible] def blockOfWords (x : Fin 16 → Word) : Vector Byte 64 :=
  Vector.ofFn fun k : Fin 64 => byteOfWord (x ⟨k.val / 4, by omega⟩) (k.val % 4)

/-- Bits 31:0 of a 64-bit register (00_scope.md R13). -/
def lowHalf (v : DWord) : Word := v.extractLsb' 0 32

/-- Bits 63:32 of a 64-bit register (00_scope.md R13). -/
def highHalf (v : DWord) : Word := v.extractLsb' 32 32

/-- A 64-bit register from its HI and LO halves (00_scope.md R13, 10_state.md R23). -/
def joinHalves (hi lo : Word) : DWord := hi ++ lo

end Sys2Proof.Machine
end

