-- ==== Sys2Proof/Config.lean ====
section
/-! DEFINITION. What one implementation fixes and the spec leaves open: constants without a body, so that no proof can
see a value of them. -/

namespace Sys2Proof

/-- `MSG_CAP` of 00_scope.md R7, the OPEN parameter: the byte capacity of the message memory (93 U8, log entry 4).
`State.reset` puts it into `msg.cap`; the rest of the model reads only that field. -/
opaque Config.msgCap : Nat

/-- The byte an MSG address holds that the host never wrote: one value per address, the same on every read
(20_memory.md R39, 93 U5, log entry 5). -/
opaque Config.unwrittenByte : Nat → Byte

/-- The k-th unspecified 32-bit value of a run (93 U1, U2, U3; log entries 8, 9, 10). The argument is the counter
`draws` of the state. -/
opaque Config.freeWord : Nat → Word

end Sys2Proof
end

