-- ==== Sys2Proof/Machine/State.lean ====
section
/-! DEFINITION. The state of the machine as plain data: every element of 10_state.md R17, the message memory of
20_memory.md R39, and the four fields of the model's own that INVENTORY.md names. -/

namespace Sys2Proof.Machine

/-- Why the machine stops. -/
inductive Fault where
  /-- Raised by the host's move `msg`: a byte write to an MSG address that is not below MSG_CAP, an address the spec says
  does not exist (20_memory.md R38, R53). SAFE: the model stops where the spec allows the host no such move. -/
  | msgWriteOutOfRange
  deriving DecidableEq, Repr

/-- Why the model gives an instruction no meaning. -/
inductive Refusal where
  /-- Raised by an arm of `exec` whose instruction has no meaning yet. SAFE. No arm raises it: every command is modelled. -/
  | notModelled (mnemonic : String)
  deriving DecidableEq, Repr

/-- The fields of STATUS (10_state.md R21). Software never writes STATUS, and its reserved bits read as 0. -/
structure Status where
  busy : Bool
  err : Bool
  padded : Bool
  blkv : Bool
  hv : Bool
  dv : Bool
  errcode : BitVec 8
  deriving DecidableEq, Repr

/-- The working state a..h (10_state.md R32). -/
structure Work where
  a : Word
  b : Word
  c : Word
  d : Word
  e : Word
  f : Word
  g : Word
  h : Word
  deriving DecidableEq, Repr

/-- The operand latch (10_state.md R34). -/
structure Latch where
  opl : BitVec 8
  nl : BitVec 5
  al : Word
  bl : Word
  lenl : DWord
  deriving DecidableEq, Repr

/-- The value of the sequencer `seq`: IDLE or a phase of the running command (10_state.md R33, 44_hash.md R97). -/
inductive Phase where
  | idle
  | nop
  | pad
  | init
  | test
  | load
  | sched
  | expand (i : Fin 64)
  | seed
  | round (i : Fin 64)
  | accum
  | ser
  | alu
  deriving DecidableEq, Repr

/-- The message memory MSG (20_memory.md R39): its capacity MSG_CAP and the bytes the host has written, by address. -/
structure MsgMemory where
  cap : Nat
  cells : List Host.Cell
  deriving DecidableEq, Repr

/-- One move of the machine: a transaction of the host (20_memory.md R53, 30_encoding.md R59, R60), or a turn of the core. -/
inductive Move where
  /-- `WR r, v`: a host register write; `r = 0x00` submits the command word v. -/
  | write (r : BitVec 8) (v : Word)
  /-- `RD r`: a host register read. -/
  | read (r : BitVec 8)
  /-- `MSG k, v`: a host write of one byte of MSG. -/
  | msg (k : DWord) (v : Byte)
  /-- `RST`: the reset event. -/
  | rst
  /-- `POLL`: read STATUS until BUSY = 0. -/
  | poll
  /-- `RUN`: submit the command word w, then POLL. -/
  | run (w : Word)
  /-- The core performs one phase of its sequencer. -/
  | core
  deriving DecidableEq, Repr

/-- The machine's state. The names are those of 10_state.md R17. -/
structure State where
  status : Status
  len : DWord
  plen : DWord
  nblk : DWord
  blkidx : DWord
  block : Vector Byte 64
  h : Vector Word 8
  digest : Vector Byte 32
  aluA : Word
  aluB : Word
  aluR : Word
  w : Vector Word 64
  work : Work
  seq : Phase
  latch : Latch
  /-- MSG, owned by the host. -/
  msg : MsgMemory
  /-- The model's own: the moves to come, in order (log entry 2). -/
  script : List Move
  /-- The model's own: what the host has read, newest first (log entry 14). -/
  readLog : List (BitVec 8 × Word)
  /-- The model's own: how many free values have been taken (log entry 8). -/
  draws : Nat
  /-- The model's own: the host wrote MSG while the running LOADBLK or HASH was busy (log entry 9). -/
  touched : Bool
  deriving DecidableEq, Repr

/-- STATUS = 0x00000000. -/
def Status.zero : Status := ⟨false, false, false, false, false, false, 0⟩

/-- The machine right after RST (70_reset_and_hazards.md R119), the host having written nothing and asked nothing.
W, a..h and the latch are unspecified there and hold 0 here (93 U3, log entry 10). -/
def State.reset : State where
  status := Status.zero
  len := 0
  plen := 0
  nblk := 0
  blkidx := 0
  block := Vector.replicate 64 0
  h := Vector.replicate 8 0
  digest := Vector.replicate 32 0
  aluA := 0
  aluB := 0
  aluR := 0
  w := Vector.replicate 64 0
  work := ⟨0, 0, 0, 0, 0, 0, 0, 0⟩
  seq := .idle
  latch := ⟨0, 0, 0, 0, 0⟩
  msg := ⟨Config.msgCap, []⟩
  script := []
  readLog := []
  draws := 0
  touched := false

end Sys2Proof.Machine
end

