-- ==== Sys2Proof/Machine/Memory.lean ====
section
/-! DEFINITION. The message memory MSG (20_memory.md R38 to R42). An address is listed exactly when the host has written
it; an unlisted address holds the unspecified byte `Config.unwrittenByte` (93 U5, log entry 5). -/

namespace Sys2Proof.Machine

/-- The byte the host has written at an address, if any. -/
def MsgMemory.lookup (cells : List Host.Cell) (k : Nat) : Option Byte :=
  match cells with
  | [] => none
  | c :: rest => if c.1 = k then some c.2 else MsgMemory.lookup rest k

/-- `MemRead(k, 1)` of 20_memory.md R41. -/
def MsgMemory.readByte (m : MsgMemory) (k : Nat) : Byte :=
  match MsgMemory.lookup m.cells k with
  | some b => b
  | none => Config.unwrittenByte k

/-- The list with the byte at `k` set, addresses still rising. -/
def MsgMemory.insert (cells : List Host.Cell) (k : Nat) (b : Byte) : List Host.Cell :=
  match cells with
  | [] => [(k, b)]
  | c :: rest =>
    if k < c.1 then (k, b) :: c :: rest
    else if k = c.1 then (k, b) :: rest
    else c :: MsgMemory.insert rest k b

/-- A host write of one byte. The caller has checked that the address exists. -/
def MsgMemory.writeByte (m : MsgMemory) (k : Nat) (b : Byte) : MsgMemory :=
  { m with cells := MsgMemory.insert m.cells k b }

/-- Every listed address is at least `lo`, and they strictly rise. -/
def MsgMemory.risingFrom (lo : Nat) (cells : List Host.Cell) : Bool :=
  match cells with
  | [] => true
  | c :: rest => decide (lo ≤ c.1) && MsgMemory.risingFrom (c.1 + 1) rest

/-- The canonical form: addresses strictly rising and below MSG_CAP, so that memories that read alike are equal data. -/
def MsgMemory.wf (m : MsgMemory) : Bool :=
  MsgMemory.risingFrom 0 m.cells && m.cells.all fun c => decide (c.1 < m.cap)

/-- The message MSG[0..n) (00_scope.md R15). -/
def MsgMemory.message (m : MsgMemory) (n : Nat) : List Byte := (List.range n).map m.readByte

end Sys2Proof.Machine
end

