-- ==== Sys2Proof/Machine/Prims.lean ====
section
/-! DEFINITION. The 32-bit primitives (42_primitives.md R85 to R87), the word functions (41_compressor.md R71 to R76) and
the constant tables (R69, R70). The functions the spec calls s0, s1, S0, S1 are `schedS0`, `schedS1`, `roundS0`, `roundS1`. -/

namespace Sys2Proof.Machine

/-- 42_primitives.md R85, for amounts 0 to 31. -/
def rotr (x : Word) (n : Nat) : Word := (x >>> n) ||| (x <<< (32 - n))

/-- 42_primitives.md R86. -/
def shr (x : Word) (n : Nat) : Word := x >>> n

/-- 42_primitives.md R87: the sum modulo 2^32; the carry is recorded nowhere. -/
def add32 (x y : Word) : Word := x + y

/-- 41_compressor.md R71. -/
def schedS0 (x : Word) : Word := rotr x 7 ^^^ rotr x 18 ^^^ shr x 3

/-- 41_compressor.md R72. -/
def schedS1 (x : Word) : Word := rotr x 17 ^^^ rotr x 19 ^^^ shr x 10

/-- 41_compressor.md R73. -/
def roundS1 (e : Word) : Word := rotr e 6 ^^^ rotr e 11 ^^^ rotr e 25

/-- 41_compressor.md R74. -/
def ch (e f g : Word) : Word := (e &&& f) ^^^ (~~~e &&& g)

/-- 41_compressor.md R75. -/
def roundS0 (a : Word) : Word := rotr a 2 ^^^ rotr a 13 ^^^ rotr a 22

/-- 41_compressor.md R76. -/
def maj (a b c : Word) : Word := (a &&& b) ^^^ (a &&& c) ^^^ (b &&& c)

/-- IV[0..7], 41_compressor.md R69. -/
def iv : Vector Word 8 :=
  #v[0x6a09e667, 0xbb67ae85, 0x3c6ef372, 0xa54ff53a, 0x510e527f, 0x9b05688c, 0x1f83d9ab, 0x5be0cd19]

/-- One row of the table of 41_compressor.md R70: K[8r] to K[8r + 7], its columns from left to right. -/
def roundKRow (r : Fin 8) : Vector Word 8 :=
  match r with
  | 0 => #v[0x428a2f98, 0x71374491, 0xb5c0fbcf, 0xe9b5dba5, 0x3956c25b, 0x59f111f1, 0x923f82a4, 0xab1c5ed5]
  | 1 => #v[0xd807aa98, 0x12835b01, 0x243185be, 0x550c7dc3, 0x72be5d74, 0x80deb1fe, 0x9bdc06a7, 0xc19bf174]
  | 2 => #v[0xe49b69c1, 0xefbe4786, 0x0fc19dc6, 0x240ca1cc, 0x2de92c6f, 0x4a7484aa, 0x5cb0a9dc, 0x76f988da]
  | 3 => #v[0x983e5152, 0xa831c66d, 0xb00327c8, 0xbf597fc7, 0xc6e00bf3, 0xd5a79147, 0x06ca6351, 0x14292967]
  | 4 => #v[0x27b70a85, 0x2e1b2138, 0x4d2c6dfc, 0x53380d13, 0x650a7354, 0x766a0abb, 0x81c2c92e, 0x92722c85]
  | 5 => #v[0xa2bfe8a1, 0xa81a664b, 0xc24b8b70, 0xc76c51a3, 0xd192e819, 0xd6990624, 0xf40e3585, 0x106aa070]
  | 6 => #v[0x19a4c116, 0x1e376c08, 0x2748774c, 0x34b0bcb5, 0x391c0cb3, 0x4ed8aa4a, 0x5b9cca4f, 0x682e6ff3]
  | 7 => #v[0x748f82ee, 0x78a5636f, 0x84c87814, 0x8cc70208, 0x90befffa, 0xa4506ceb, 0xbef9a3f7, 0xc67178f2]

/-- K[i] of 41_compressor.md R70: row i / 8, column i mod 8 of its table. -/
def roundK (i : Fin 64) : Word := (roundKRow ⟨i.val / 8, by omega⟩)[i.val % 8]

end Sys2Proof.Machine
end

