-- ==== Sys2Proof/Machine/Algorithm.lean ====
section
/-! DEFINITION. The algorithm as functions of data: padding (40_preprocessor.md R61 to R64), the schedule and the rounds
(41_compressor.md R77 to R82), serialization (43_serialization.md R92) and sha256 (44_hash.md R102). The long
computations are irreducible to the elaborator (a proof unfolds them by name); the kernel evaluates them. -/

namespace Sys2Proof.Machine

/-- The number of zero bytes, K of 40_preprocessor.md R62: `(55 - n) mod 64` with a non-negative remainder. -/
def zeroCount (n : Nat) : Nat := (55 + 64 - n % 64) % 64

/-- NBLK of 40_preprocessor.md R63. -/
def blockCount (n : Nat) : Nat := (n + 8) / 64 + 1

/-- `pad` of 40_preprocessor.md R61, which requires a bit length below 2^64. DESIGN CHOICE (log entry 16): for a list of 2^61
bytes or more the spec gives no value (R65), and here the length field wraps modulo 2^64. No run reaches such a list, since
PAD and HASH reject the length. -/
def pad (m : List Byte) : List Byte :=
  m ++ [0x80] ++ List.replicate (zeroCount m.length) 0x00 ++ bytes64 (BitVec.ofNat 64 (8 * m.length))

/-- `padbyte` of 40_preprocessor.md R64: byte k of the padded message, n its length and `blocks` its block count. DESIGN
CHOICE (log entry 16) for n of 2^61 or more, as in `pad`. -/
def padByte (m : MsgMemory) (n blocks k : Nat) : Byte :=
  if k < n then m.readByte k
  else if k = n then 0x80
  else if k < 64 * blocks - 8 then 0x00
  else byteOfDWord (BitVec.ofNat 64 (8 * n)) (k - (64 * blocks - 8))

/-- Block j of the padded message, as LOADBLK produces it (40_preprocessor.md R68). -/
@[irreducible] def paddedBlock (m : MsgMemory) (n blocks j : Nat) : Vector Byte 64 :=
  Vector.ofFn fun t : Fin 64 => padByte m n blocks (64 * j + t.val)

/-- Schedule load (41_compressor.md R77): W[0..15] from the block; the other words keep their values. -/
@[irreducible] def schedLoad (b : Vector Byte 64) (w : Vector Word 64) : Vector Word 64 :=
  Vector.ofFn fun t : Fin 64 => if ht : t.val < 16 then blockWord b ⟨t.val, ht⟩ else w[t]

/-- W[i] of the schedule expansion (41_compressor.md R78), for i = 16 to 63. -/
def expandWord (w : Vector Word 64) (i : Fin 64) : Word :=
  add32 (add32 (add32 w[i - 16] (schedS0 w[i - 15])) w[i - 7]) (schedS1 w[i - 2])

/-- One step of the schedule expansion. -/
def expandAt (w : Vector Word 64) (i : Fin 64) : Vector Word 64 := w.set i (expandWord w i)

/-- `n` steps of the schedule expansion from index i. -/
def expandFrom : Nat → Fin 64 → Vector Word 64 → Vector Word 64
  | 0, _, w => w
  | n + 1, i, w => expandFrom n (i + 1) (expandAt w i)

/-- The whole schedule: load, then i = 16 to 63. -/
@[irreducible] def schedule (b : Vector Byte 64) (w : Vector Word 64) : Vector Word 64 := expandFrom 48 16 (schedLoad b w)

/-- The working-state seed, a..h from H[0]..H[7] in order (41_compressor.md R79). -/
def seedWork (h : Vector Word 8) : Work := ⟨h[0], h[1], h[2], h[3], h[4], h[5], h[6], h[7]⟩

/-- T1 of round i (41_compressor.md R80). -/
def roundT1 (w : Vector Word 64) (i : Fin 64) (v : Work) : Word :=
  add32 (add32 (add32 (add32 v.h (roundS1 v.e)) (ch v.e v.f v.g)) (roundK i)) w[i]

/-- T2 of a round (41_compressor.md R80). -/
def roundT2 (v : Work) : Word := add32 (roundS0 v.a) (maj v.a v.b v.c)

/-- Round i (41_compressor.md R80), the eight assignments at once. -/
def roundAt (w : Vector Word 64) (i : Fin 64) (v : Work) : Work :=
  { a := add32 (roundT1 w i v) (roundT2 v)
    b := v.a
    c := v.b
    d := v.c
    e := add32 v.d (roundT1 w i v)
    f := v.e
    g := v.f
    h := v.g }

/-- `n` rounds from index i. -/
def roundsFrom : Nat → Fin 64 → Vector Word 64 → Work → Work
  | 0, _, _, v => v
  | n + 1, i, w, v => roundsFrom n (i + 1) w (roundAt w i v)

/-- State accumulation (41_compressor.md R81). -/
def accumulate (h : Vector Word 8) (v : Work) : Vector Word 8 :=
  #v[add32 h[0] v.a, add32 h[1] v.b, add32 h[2] v.c, add32 h[3] v.d,
     add32 h[4] v.e, add32 h[5] v.f, add32 h[6] v.g, add32 h[7] v.h]

/-- The working state after the 64 rounds over a schedule. -/
@[irreducible] def roundsOf (w : Vector Word 64) (h : Vector Word 8) : Work := roundsFrom 64 0 w (seedWork h)

/-- `compress` of 41_compressor.md R82, a pure function of the hash state and the block. -/
@[irreducible] def compress (h : Vector Word 8) (b : Vector Byte 64) : Vector Word 8 :=
  accumulate h (roundsOf (schedule b (Vector.replicate 64 0)) h)

/-- `serialize` of 43_serialization.md R92. -/
def serialize (h : Vector Word 8) : List Byte := h.toList.flatMap bytes32

/-- Block j of a padded message, `P[64j .. 64j+64)`. -/
@[irreducible] def blockOfBytes (p : List Byte) (j : Nat) : Vector Byte 64 := Vector.ofFn fun t : Fin 64 => p.getD (64 * j + t.val) 0

/-- The hash state after the blocks of a padded message in order, from IV (44_hash.md R102). -/
@[irreducible] def chain (p : List Byte) : Vector Word 8 :=
  (List.range (p.length / 64)).foldl (fun h j => compress h (blockOfBytes p j)) iv

/-- `sha256` of 44_hash.md R102, which requires a bit length below 2^64. DESIGN CHOICE (log entry 16): a longer list, which no
run reaches, has the digest of `pad` with its wrapped length field; the spec gives none. -/
def sha256 (m : List Byte) : List Byte := serialize (chain (pad m))

end Sys2Proof.Machine
end

