-- ==== Sys2Proof/Machine/Flags.lean ====
section
/-! DEFINITION. STATUS: its word (10_state.md R21), the error codes (60_exceptions.md R105) and every change of a flag
(10_state.md R22, 44_hash.md R96 and R98, 60_exceptions.md R106). -/

namespace Sys2Proof.Machine

/-- The rejections of 60_exceptions.md R105. -/
inductive ErrCode where
  | badCmd
  | busy
  | lenRange
  | lenCap
  | notPadded
  | noMoreBlocks
  | noBlock
  | noState
  deriving DecidableEq, Repr

/-- ERRCODE of a rejection (60_exceptions.md R105). -/
def errByte (e : ErrCode) : BitVec 8 :=
  match e with
  | .badCmd => 0x01
  | .busy => 0x02
  | .lenRange => 0x03
  | .lenCap => 0x04
  | .notPadded => 0x05
  | .noMoreBlocks => 0x06
  | .noBlock => 0x07
  | .noState => 0x08

/-- One flag as the word with that bit. -/
def flagBit (f : Bool) (k : Nat) : Word := (if f then (1 : Word) else 0) <<< k

/-- STATUS as the host reads it (10_state.md R21); bits 7:6 and 31:16 are 0. -/
def statusWord (x : Status) : Word :=
  flagBit x.busy 0 ||| flagBit x.err 1 ||| flagBit x.padded 2 ||| flagBit x.blkv 3 ||| flagBit x.hv 4 |||
    flagBit x.dv 5 ||| (x.errcode.zeroExtend 32 <<< 8)

/-- The STATUS bits a read leaves open while BUSY = 1: bits 2 to 5 (70_reset_and_hazards.md R124). -/
def statusOpenBits : Word := 0x0000003C

/-- `raise CmdError(code)` on STATUS (60_exceptions.md R106). -/
def rejectedStatus (x : Status) (e : ErrCode) : Status := { x with err := true, errcode := errByte e }

/-- Acceptance on STATUS (44_hash.md R96). -/
def acceptedStatus (x : Status) : Status := { x with busy := true, err := false, errcode := 0 }

/-- Completion on STATUS (44_hash.md R98). -/
def completedStatus (x : Status) : Status := { x with busy := false }

/-- PAD: PADDED <- 1, BLKV <- 0 (40_preprocessor.md R67). -/
def padStatus (x : Status) : Status := { x with padded := true, blkv := false }

/-- INIT: HV <- 1 (41_compressor.md R83). -/
def initStatus (x : Status) : Status := { x with hv := true }

/-- LOADBLK: BLKV <- 1 (40_preprocessor.md R68). -/
def loadStatus (x : Status) : Status := { x with blkv := true }

/-- COMPRESS: BLKV <- 0 (41_compressor.md R84). -/
def compressStatus (x : Status) : Status := { x with blkv := false }

/-- SERIALIZE: DV <- 1 (43_serialization.md R93). -/
def serializeStatus (x : Status) : Status := { x with dv := true }

end Sys2Proof.Machine
end

