-- ==== Sys2Proof/Syntax.lean ====
section
/-! DEFINITION. The commands: one constructor per row of spec/opcode_table.json. The core has no other instruction kind
(00_scope.md R15, 30_encoding.md R56). -/

namespace Sys2Proof

/-- A command. The only operand a command word carries is N, the shift amount of ROTR and SHR, 5 bits, 0 to 31
(30_encoding.md R55); every other operand is implicit, so the type admits exactly the commands the encoding has. -/
inductive Instr where
  /-- NOP, 44_hash.md R100. -/
  | nop
  /-- HASH, 44_hash.md R101. -/
  | hash
  /-- PAD, 40_preprocessor.md R67. -/
  | pad
  /-- INIT, 41_compressor.md R83. -/
  | init
  /-- LOADBLK, 40_preprocessor.md R68. -/
  | loadblk
  /-- COMPRESS, 41_compressor.md R84. -/
  | compress
  /-- SERIALIZE, 43_serialization.md R93. -/
  | serialize
  /-- ROTR, 42_primitives.md R89. -/
  | rotr (n : BitVec 5)
  /-- SHR, 42_primitives.md R90. -/
  | shr (n : BitVec 5)
  /-- ADD32, 42_primitives.md R91. -/
  | add32
  deriving DecidableEq, Repr

end Sys2Proof
end

