-- ==== Sys2Proof/WellFormed.lean ====
section
/-! DEFINITION. Which 32-bit words are command words. A term of `Instr` is well formed by its type (N has 5 bits), so the
checks stand on the raw word: the reserved field, the opcode and the N field (30_encoding.md R54, R57, R58). -/

namespace Sys2Proof

/-- Bits 31:13 (RSV) are zero. -/
def CommandWord.reservedClear (w : Word) : Bool := w.extractLsb' 13 19 == 0

/-- Bits 7:0 (OP) name a command. -/
def CommandWord.opcodeAssigned (w : Word) : Bool :=
  [0x00, 0x01, 0x02, 0x03, 0x04, 0x05, 0x06, 0x10, 0x11, 0x12].contains (w.extractLsb' 0 8)

/-- Bits 12:8 (N) are zero unless the opcode is ROTR's or SHR's. -/
def CommandWord.shiftAllowed (w : Word) : Bool :=
  w.extractLsb' 8 5 == 0 || w.extractLsb' 0 8 == 0x10 || w.extractLsb' 0 8 == 0x11

/-- A word that decodes to a command passes all three checks; a word that fails one is illegal (30_encoding.md R58). -/
def CommandWord.wellFormed (w : Word) : Bool :=
  CommandWord.reservedClear w && CommandWord.opcodeAssigned w && CommandWord.shiftAllowed w

end Sys2Proof
end

