-- ==== Sys2Proof/Decode.lean ====
section
/-! DEFINITION. Decoding a command word (30_encoding.md R54 to R58) and encoding a command. -/

namespace Sys2Proof

/-- Why a word is illegal: the three causes 60_exceptions.md R109 lists. -/
inductive IllegalCause where
  /-- A bit of 31:13 is set. -/
  | reservedBits
  /-- OP is none of the ten opcodes. -/
  | unknownOpcode
  /-- N is not zero on an opcode that takes none. -/
  | nonzeroShift
  deriving DecidableEq, Repr

/-- The verdict of decoding: a command, or illegal (30_encoding.md R57). -/
inductive Decoded where
  | command (i : Instr)
  | illegal (why : IllegalCause)
  deriving DecidableEq, Repr

/-- Bits 7:0. -/
def opField (w : Word) : BitVec 8 := w.extractLsb' 0 8

/-- Bits 12:8. -/
def shiftField (w : Word) : BitVec 5 := w.extractLsb' 8 5

/-- Bits 31:13. -/
def reservedField (w : Word) : BitVec 19 := w.extractLsb' 13 19

/-- The command of an opcode that takes no N (30_encoding.md R56). -/
def plainCommand (op : BitVec 8) : Option Instr :=
  if op = 0x00 then some .nop
  else if op = 0x01 then some .hash
  else if op = 0x02 then some .pad
  else if op = 0x03 then some .init
  else if op = 0x04 then some .loadblk
  else if op = 0x05 then some .compress
  else if op = 0x06 then some .serialize
  else if op = 0x12 then some .add32
  else none

/-- 30_encoding.md R57, total on every 32-bit word. -/
def decode (w : Word) : Decoded :=
  if reservedField w ≠ 0 then .illegal .reservedBits
  else if opField w = 0x10 then .command (.rotr (shiftField w))
  else if opField w = 0x11 then .command (.shr (shiftField w))
  else
    match plainCommand (opField w) with
    | none => .illegal .unknownOpcode
    | some i => if shiftField w ≠ 0 then .illegal .nonzeroShift else .command i

/-- The command of a verdict, if it is one. -/
def Decoded.toOption (d : Decoded) : Option Instr :=
  match d with
  | .command i => some i
  | .illegal _ => none

/-- The OP field of a command (30_encoding.md R56). -/
def opcode (i : Instr) : BitVec 8 :=
  match i with
  | .nop => 0x00
  | .hash => 0x01
  | .pad => 0x02
  | .init => 0x03
  | .loadblk => 0x04
  | .compress => 0x05
  | .serialize => 0x06
  | .rotr _ => 0x10
  | .shr _ => 0x11
  | .add32 => 0x12

/-- The N field of a command: the shift amount, and 0 where the opcode takes none (30_encoding.md R54). -/
def shiftAmount (i : Instr) : BitVec 5 :=
  match i with
  | .rotr n => n
  | .shr n => n
  | .nop => 0
  | .hash => 0
  | .pad => 0
  | .init => 0
  | .loadblk => 0
  | .compress => 0
  | .serialize => 0
  | .add32 => 0

/-- The command word: RSV, N, OP from the top (30_encoding.md R54, R59). -/
def encode (i : Instr) : Word := (0 : BitVec 19) ++ shiftAmount i ++ opcode i

/-- A row of the opcode map: `w &&& mask = pattern` decides the command (30_encoding.md R56). -/
structure OpcodeRow where
  mnemonic : String
  pattern : Word
  mask : Word
  deriving DecidableEq, Repr

/-- The opcode map of 30_encoding.md R56, row by row. -/
def opcodeMap : List OpcodeRow :=
  [ ⟨"NOP", 0x00000000, 0xFFFFFFFF⟩
  , ⟨"HASH", 0x00000001, 0xFFFFFFFF⟩
  , ⟨"PAD", 0x00000002, 0xFFFFFFFF⟩
  , ⟨"INIT", 0x00000003, 0xFFFFFFFF⟩
  , ⟨"LOADBLK", 0x00000004, 0xFFFFFFFF⟩
  , ⟨"COMPRESS", 0x00000005, 0xFFFFFFFF⟩
  , ⟨"SERIALIZE", 0x00000006, 0xFFFFFFFF⟩
  , ⟨"ROTR", 0x00000010, 0xFFFFE0FF⟩
  , ⟨"SHR", 0x00000011, 0xFFFFE0FF⟩
  , ⟨"ADD32", 0x00000012, 0xFFFFFFFF⟩ ]

/-- The word matches the row. -/
def OpcodeRow.selects (r : OpcodeRow) (w : Word) : Bool := w &&& r.mask == r.pattern

/-- The mnemonic of a command, as the opcode map has it. -/
def mnemonic (i : Instr) : String :=
  match i with
  | .nop => "NOP"
  | .hash => "HASH"
  | .pad => "PAD"
  | .init => "INIT"
  | .loadblk => "LOADBLK"
  | .compress => "COMPRESS"
  | .serialize => "SERIALIZE"
  | .rotr _ => "ROTR"
  | .shr _ => "SHR"
  | .add32 => "ADD32"

/-- The command word a table number stands for: the low `nbits` bits of `w`; the bits above are 0. A command is one
32-bit value, moved whole by a register write, so no byte order arises (30_encoding.md R54, 20_memory.md R43). -/
def tableWord (nbits w : Nat) : Word := BitVec.ofNat 32 (w % 2 ^ nbits)

/-- What the decoder reads from an instruction numbered as spec/opcode_table.json numbers it. -/
def decodeTableWord (nbits w : Nat) : Option Instr := (decode (tableWord nbits w)).toOption

end Sys2Proof
end

