-- ==== Sys2Proof/Machine/Operands.lean ====
section
/-! DEFINITION. Operand assembly: what acceptance latches, and the operands a running command reads from the latch
(30_encoding.md R55, 44_hash.md R95). -/

namespace Sys2Proof.Machine

/-- The latch of a command accepted in `s` (44_hash.md R95): OPL and NL from the word, AL, BL and LENL from the host registers. -/
def latchOf (i : Instr) (s : State) : Latch :=
  { opl := opcode i, nl := shiftAmount i, al := s.aluA, bl := s.aluB, lenl := s.len }

/-- The shift amount of the running ROTR or SHR, `zext_32(cmd[12:8])` (30_encoding.md R55). -/
def shiftOperand (s : State) : Nat := s.latch.nl.toNat

/-- ALU_A as latched. -/
def aluOperandA (s : State) : Word := s.latch.al

/-- ALU_B as latched. -/
def aluOperandB (s : State) : Word := s.latch.bl

/-- LEN as latched, in bytes. -/
def lengthOperand (s : State) : Nat := s.latch.lenl.toNat

/-- The running command is HASH: the test `OPL = HASH` of 44_hash.md R97. -/
def runsHash (s : State) : Bool := s.latch.opl == opcode .hash

/-- The running command is LOADBLK. -/
def runsLoadblk (s : State) : Bool := s.latch.opl == opcode .loadblk

end Sys2Proof.Machine
end

