-- ==== Sys2Proof/Machine/Ops.lean ====
section
/-! DEFINITION. The operations common to every command: the checks (60_exceptions.md R111), rejection (R106), acceptance
(44_hash.md R96), completion (R98), and the action of each phase of the sequencer (R97). -/

namespace Sys2Proof.Machine

/-- `MAX_LEN` of 00_scope.md R7: the greatest length whose bit length fits in 64 bits (40_preprocessor.md R65). -/
def maxLen : Nat := 2 ^ 61 - 1

/-- LEN_RANGE, then LEN_CAP (60_exceptions.md R110). LEN at the write is the value latched (44_hash.md R95). -/
def checkLength (s : State) : Option ErrCode :=
  if maxLen < s.len.toNat then some .lenRange
  else if s.msg.cap < s.len.toNat then some .lenCap
  else none

/-- The checks of a command in their order: the first that fails (60_exceptions.md R111). -/
def check (i : Instr) (s : State) : Option ErrCode :=
  match i with
  | .pad => checkLength s
  | .hash => checkLength s
  | .loadblk =>
    if s.status.padded = false then some .notPadded
    else if s.blkidx = s.nblk then some .noMoreBlocks
    else none
  | .compress =>
    if s.status.hv = false then some .noState
    else if s.status.blkv = false then some .noBlock
    else none
  | .serialize => if s.status.hv = false then some .noState else none
  | .nop => none
  | .init => none
  | .rotr _ => none
  | .shr _ => none
  | .add32 => none

/-- `raise CmdError(code)`, the core's only error event: ERR and ERRCODE, nothing else (60_exceptions.md R106). There is
no trap entry and no return from one (R114, R115). -/
def raiseCmdError (e : ErrCode) (s : State) : State := { s with status := rejectedStatus s.status e }

/-- The first phase of a command, `first(OPL)` of 44_hash.md R97. -/
def firstPhase (i : Instr) : Phase :=
  match i with
  | .nop => .nop
  | .hash => .pad
  | .pad => .pad
  | .init => .init
  | .loadblk => .load
  | .compress => .sched
  | .serialize => .ser
  | .rotr _ => .alu
  | .shr _ => .alu
  | .add32 => .alu

/-- Acceptance (44_hash.md R96). A command starts with no MSG write seen while it is busy (`touched`, log entry 9). -/
def accept (i : Instr) (s : State) : State :=
  { s with
    latch := latchOf i s
    status := acceptedStatus s.status
    seq := firstPhase i
    touched := false }

/-- The k-th free word from here (log entry 8). -/
def drawWord (s : State) (k : Nat) : Word := Config.freeWord (s.draws + k)

/-- Eight free words from the k-th on. -/
@[irreducible] def drawEight (s : State) (k : Nat) : Vector Word 8 := Vector.ofFn fun i : Fin 8 => drawWord s (k + i.val)

/-- The words of BLOCK become unspecified (70_reset_and_hazards.md R125). -/
def drawBlock (s : State) : State :=
  { s with block := blockOfWords fun k => drawWord s k.val, draws := s.draws + 16 }

/-- The words of BLOCK, H and DIGEST become unspecified (70_reset_and_hazards.md R125). -/
def drawResults (s : State) : State :=
  { s with
    block := blockOfWords fun k => drawWord s k.val
    h := drawEight s 16
    digest := digestOfWords (drawEight s 24)
    draws := s.draws + 32 }

/-- What a broken host duty does to the results of the running command: LOADBLK's BLOCK, HASH's BLOCK, H and D
(70_reset_and_hazards.md R125, 93 U2, log entry 9). Any other command is not affected. -/
def spoilResults (s : State) : State :=
  if runsLoadblk s then drawBlock s else if runsHash s then drawResults s else s

/-- Completion: seq is IDLE and BUSY 0; ERR and ERRCODE stay (44_hash.md R98). -/
def toIdle (s : State) : State :=
  { s with status := completedStatus s.status, seq := .idle, touched := false }

/-- Completion of the running command, with its results unspecified if the host wrote MSG meanwhile. -/
def complete (s : State) : State := if s.touched then toIdle (spoilResults s) else toIdle s

/-- PAD actions (40_preprocessor.md R67). -/
def padAction (s : State) : State :=
  { s with
    plen := s.latch.lenl
    nblk := BitVec.ofNat 64 (blockCount (lengthOperand s))
    blkidx := 0
    status := padStatus s.status }

/-- INIT actions (41_compressor.md R83). -/
def initAction (s : State) : State := { s with h := iv, status := initStatus s.status }

/-- LOADBLK actions (40_preprocessor.md R68). -/
def loadAction (s : State) : State :=
  { s with
    block := paddedBlock s.msg s.plen.toNat s.nblk.toNat s.blkidx.toNat
    blkidx := s.blkidx + 1
    status := loadStatus s.status }

/-- Phase P_SCHED (41_compressor.md R77). -/
def schedAction (s : State) : State := { s with w := schedLoad s.block s.w }

/-- Phase (P_EXPAND, i) (41_compressor.md R78). -/
def expandAction (i : Fin 64) (s : State) : State := { s with w := expandAt s.w i }

/-- Phase P_SEED (41_compressor.md R79). -/
def seedAction (s : State) : State := { s with work := seedWork s.h }

/-- Phase (P_ROUND, i) (41_compressor.md R80). -/
def roundAction (i : Fin 64) (s : State) : State := { s with work := roundAt s.w i s.work }

/-- Phase P_ACCUM (41_compressor.md R81), then BLKV <- 0 (44_hash.md R97). -/
def accumAction (s : State) : State :=
  { s with h := accumulate s.h s.work, status := compressStatus s.status }

/-- COMPRESS actions (41_compressor.md R84): the phases P_SCHED to P_ACCUM in one. W and a..h are left as they end. -/
def compressAction (s : State) : State :=
  { s with
    w := schedule s.block s.w
    work := roundsOf (schedule s.block s.w) s.h
    h := accumulate s.h (roundsOf (schedule s.block s.w) s.h)
    status := compressStatus s.status }

/-- SERIALIZE actions (43_serialization.md R93). -/
def serAction (s : State) : State :=
  { s with digest := digestOfWords s.h, status := serializeStatus s.status }

/-- ROTR action (42_primitives.md R89). -/
def rotrAction (s : State) : State := { s with aluR := rotr (aluOperandA s) (shiftOperand s) }

/-- SHR action (42_primitives.md R90). -/
def shrAction (s : State) : State := { s with aluR := shr (aluOperandA s) (shiftOperand s) }

/-- ADD32 action (42_primitives.md R91). -/
def add32Action (s : State) : State := { s with aluR := add32 (aluOperandA s) (aluOperandB s) }

/-- The block loop of HASH, `while BLKIDX < NBLK` (44_hash.md R101), with at most `fuel` iterations. -/
def hashBlocks : Nat → State → State
  | 0, s => s
  | fuel + 1, s => if s.blkidx < s.nblk then hashBlocks fuel (compressAction (loadAction s)) else s

/-- HASH actions (44_hash.md R101): PAD, INIT, the block loop, SERIALIZE. The loop runs NBLK times. -/
def hashAction (s : State) : State :=
  let t := initAction (padAction s)
  serAction (hashBlocks t.nblk.toNat t)

/-- A command submitted and run to its completion with no host move between (44_hash.md R94, R96, R98, R99): rejected with
BUSY, or with the code of its first failing check, or accepted, performed and completed. -/
def runCommand (i : Instr) (action : State → State) (s : State) : Host.Outcome State Fault Refusal :=
  if s.status.busy then .next (raiseCmdError .busy s)
  else
    match check i s with
    | some e => .next (raiseCmdError e s)
    | none => .next (complete (action (accept i s)))

end Sys2Proof.Machine
end

