-- ==== Sys2Proof/Machine/Compressor.lean ====
section
/-! DEFINITION. The commands of 41_compressor.md: INIT and COMPRESS. -/

namespace Sys2Proof.Machine

/-- INIT (41_compressor.md R83): starts a hash state. -/
def execInit (s : State) : Host.Outcome State Fault Refusal := runCommand .init initAction s

/-- COMPRESS (41_compressor.md R84): compresses the loaded block into the hash state. -/
def execCompress (s : State) : Host.Outcome State Fault Refusal := runCommand .compress compressAction s

end Sys2Proof.Machine
end

