-- ==== Sys2Proof/Machine/Hash.lean ====
section
/-! DEFINITION. The commands of 44_hash.md: NOP and HASH. -/

namespace Sys2Proof.Machine

/-- NOP (44_hash.md R100): nothing but what every accepted command does. -/
def execNop (s : State) : Host.Outcome State Fault Refusal := runCommand .nop id s

/-- HASH (44_hash.md R101): the SHA-256 digest of MSG[0..LEN). -/
def execHash (s : State) : Host.Outcome State Fault Refusal := runCommand .hash hashAction s

end Sys2Proof.Machine
end

