-- ==== Sys2Proof/Machine/Preprocessor.lean ====
section
/-! DEFINITION. The commands of 40_preprocessor.md: PAD and LOADBLK. -/

namespace Sys2Proof.Machine

/-- PAD (40_preprocessor.md R67): starts a padding of MSG[0..LEN). -/
def execPad (s : State) : Host.Outcome State Fault Refusal := runCommand .pad padAction s

/-- LOADBLK (40_preprocessor.md R68): loads the next block of the padded message into BLOCK. -/
def execLoadblk (s : State) : Host.Outcome State Fault Refusal := runCommand .loadblk loadAction s

end Sys2Proof.Machine
end

