-- ==== Sys2Proof/Machine/Primitives.lean ====
section
/-! DEFINITION. The commands of 42_primitives.md: ROTR, SHR and ADD32. -/

namespace Sys2Proof.Machine

/-- ROTR (42_primitives.md R89). -/
def execRotr (n : BitVec 5) (s : State) : Host.Outcome State Fault Refusal := runCommand (.rotr n) rotrAction s

/-- SHR (42_primitives.md R90). -/
def execShr (n : BitVec 5) (s : State) : Host.Outcome State Fault Refusal := runCommand (.shr n) shrAction s

/-- ADD32 (42_primitives.md R91). -/
def execAdd32 (s : State) : Host.Outcome State Fault Refusal := runCommand .add32 add32Action s

end Sys2Proof.Machine
end

