-- ==== Sys2Proof/Machine/Serialization.lean ====
section
/-! DEFINITION. The command of 43_serialization.md: SERIALIZE. -/

namespace Sys2Proof.Machine

/-- SERIALIZE (43_serialization.md R93): writes the digest of the current hash state. -/
def execSerialize (s : State) : Host.Outcome State Fault Refusal := runCommand .serialize serAction s

end Sys2Proof.Machine
end

