-- ==== Sys2Proof/Machine/Sequencer.lean ====
section
/-! DEFINITION. The sequencer of 44_hash.md R97, one phase a step, and the submission of a command word that starts it
(R94). This is the core's own view of a command: the host may act between two phases. -/

namespace Sys2Proof.Machine

/-- A submission (44_hash.md R94): the checks, then a rejection or the acceptance. The phases follow in later steps. -/
def submit (w : Word) (s : State) : State :=
  if s.status.busy then raiseCmdError .busy s
  else
    match decode w with
    | .illegal _ => raiseCmdError .badCmd s
    | .command i =>
      match check i s with
      | some e => raiseCmdError e s
      | none => accept i s

/-- The next phase is p. -/
def enter (p : Phase) (s : State) : State := { s with seq := p }

/-- The next phase is p if the running command is HASH, else IDLE. -/
def enterIfHash (p : Phase) (s : State) : State := if runsHash s then enter p s else complete s

/-- Phase P_ALU: the action of the latched opcode. No other opcode reaches this phase. -/
def aluAction (s : State) : State :=
  if s.latch.opl = 0x10 then rotrAction s
  else if s.latch.opl = 0x11 then shrAction s
  else if s.latch.opl = 0x12 then add32Action s
  else s

/-- One phase of the running command (44_hash.md R97); an idle core waits. -/
def coreStep (s : State) : State :=
  match s.seq with
  | .idle => s
  | .nop => complete s
  | .pad => enterIfHash .init (padAction s)
  | .init => enterIfHash .test (initAction s)
  | .test => if s.blkidx < s.nblk then enter .load s else enter .ser s
  | .load => enterIfHash .sched (loadAction s)
  | .sched => enter (.expand 16) (schedAction s)
  | .expand i => if i < 63 then enter (.expand (i + 1)) (expandAction i s) else enter .seed (expandAction i s)
  | .seed => enter (.round 0) (seedAction s)
  | .round i => if i < 63 then enter (.round (i + 1)) (roundAction i s) else enter .accum (roundAction i s)
  | .accum => enterIfHash .test (accumAction s)
  | .ser => complete (serAction s)
  | .alu => complete (aluAction s)

/-- `n` phases with no host move between. -/
def coreRun : Nat → State → State
  | 0, s => s
  | n + 1, s => coreRun n (coreStep s)

/-- How many phases an accepted command runs (44_hash.md R97): COMPRESS 115, HASH 2 + 117 NBLK + 2, the others one. -/
def phaseCount (i : Instr) (s : State) : Nat :=
  match i with
  | .nop => 1
  | .hash => 2 + 117 * blockCount s.len.toNat + 2
  | .pad => 1
  | .init => 1
  | .loadblk => 1
  | .compress => 115
  | .serialize => 1
  | .rotr _ => 1
  | .shr _ => 1
  | .add32 => 1

end Sys2Proof.Machine
end

