-- ==== Sys2Proof/Machine/Registers.lean ====
section
/-! DEFINITION. The host register map (10_state.md R18 to R21): what a read returns, with the unspecified bits of a read
while BUSY = 1 (70_reset_and_hazards.md R124), and what a write does (20_memory.md R46). -/

namespace Sys2Proof.Machine

/-- What a register holds (10_state.md R18); CMD and the reserved indices read as 0 (R19, R20). -/
def regContent (r : BitVec 8) (s : State) : Word :=
  let k := r.toNat
  if k = 0x01 then statusWord s.status
  else if k = 0x02 then lowHalf s.len
  else if k = 0x03 then highHalf s.len
  else if k = 0x04 then lowHalf s.nblk
  else if k = 0x05 then highHalf s.nblk
  else if k = 0x06 then lowHalf s.blkidx
  else if k = 0x07 then highHalf s.blkidx
  else if k = 0x08 then s.aluA
  else if k = 0x09 then s.aluB
  else if k = 0x0A then s.aluR
  else if hk : 0x10 ≤ k ∧ k < 0x18 then s.h[k - 0x10]
  else if hk : 0x18 ≤ k ∧ k < 0x20 then digestWord s.digest ⟨k - 0x18, by omega⟩
  else if hk : 0x20 ≤ k ∧ k < 0x30 then blockWord s.block ⟨k - 0x20, by omega⟩
  else 0

/-- The bits of a register that a read leaves open while BUSY = 1 (70_reset_and_hazards.md R124): STATUS bits 2 to 5, and
every bit of NBLK, BLKIDX, ALU_R, H, DIGEST and BLOCK. -/
def openBits (r : BitVec 8) : Word :=
  let k := r.toNat
  if k = 0x01 then statusOpenBits
  else if (0x04 ≤ k ∧ k ≤ 0x07) ∨ k = 0x0A ∨ (0x10 ≤ k ∧ k < 0x30) then 0xFFFFFFFF
  else 0

/-- The value a host read returns: the content, with the open bits taken from a free word while BUSY = 1 (93 U1). -/
def readValue (r : BitVec 8) (s : State) : Word :=
  if s.status.busy then (regContent r s &&& ~~~(openBits r)) ||| (drawWord s 0 &&& openBits r)
  else regContent r s

/-- A read takes a free word when BUSY = 1 and the register has open bits. -/
def readDraws (r : BitVec 8) (s : State) : Nat := if s.status.busy && openBits r != 0 then 1 else 0

/-- A host register read: no effect on the core (20_memory.md R46); the host has the value. -/
def hostRead (r : BitVec 8) (s : State) : State :=
  { s with readLog := (r, readValue r s) :: s.readLog, draws := s.draws + readDraws r s }

/-- A host write to LEN_LO (10_state.md R23). -/
def writeLenLo (v : Word) (s : State) : State := { s with len := joinHalves (highHalf s.len) v }

/-- A host write to LEN_HI (10_state.md R23). -/
def writeLenHi (v : Word) (s : State) : State := { s with len := joinHalves v (lowHalf s.len) }

/-- A host write to ALU_A (10_state.md R30). -/
def writeAluA (v : Word) (s : State) : State := { s with aluA := v }

/-- A host write to ALU_B (10_state.md R30). -/
def writeAluB (v : Word) (s : State) : State := { s with aluB := v }

/-- A host register write: CMD submits, LEN_LO, LEN_HI, ALU_A and ALU_B store, any other index changes nothing
(10_state.md R18 to R20, 20_memory.md R46, R53). -/
def hostWrite (r : BitVec 8) (v : Word) (s : State) : State :=
  if r = 0x00 then submit v s
  else if r = 0x02 then writeLenLo v s
  else if r = 0x03 then writeLenHi v s
  else if r = 0x08 then writeAluA v s
  else if r = 0x09 then writeAluB v s
  else s

/-- A host write of one byte of MSG below MSG_CAP. While a LOADBLK or HASH is busy it makes that command's results
unspecified (70_reset_and_hazards.md R125). -/
def storeMsg (k : Nat) (b : Byte) (s : State) : State :=
  { s with
    msg := s.msg.writeByte k b
    touched := s.touched || (s.status.busy && (runsLoadblk s || runsHash s)) }

/-- The MSG write move: an address that is not below MSG_CAP does not exist (20_memory.md R38, log entry 6). -/
def hostMsg (k : DWord) (b : Byte) (s : State) : Host.Outcome State Fault Refusal :=
  if k.toNat < s.msg.cap then .next (storeMsg k.toNat b s) else .fault .msgWriteOutOfRange

/-- 64 free words for W. -/
@[irreducible] def drawSchedule (s : State) : Vector Word 64 := Vector.ofFn fun i : Fin 64 => drawWord s i.val

/-- The RST event (70_reset_and_hazards.md R119). W, a..h and the latch take unspecified values (93 U3, log entry 10);
MSG, the host's moves and what it has read are not the core's. -/
def resetEvent (s : State) : State :=
  { State.reset with
    w := drawSchedule s
    work := ⟨drawWord s 64, drawWord s 65, drawWord s 66, drawWord s 67,
             drawWord s 68, drawWord s 69, drawWord s 70, drawWord s 71⟩
    latch := { opl := (drawWord s 72).extractLsb' 0 8
               nl := (drawWord s 73).extractLsb' 0 5
               al := drawWord s 74
               bl := drawWord s 75
               lenl := drawWord s 76 ++ drawWord s 77 }
    msg := s.msg
    script := s.script
    readLog := s.readLog
    draws := s.draws + 78 }

end Sys2Proof.Machine
end

