-- ==== Sys2Proof/Machine/Moves.lean ====
section
/-! DEFINITION. What one move does (20_memory.md R53, 30_encoding.md R59, R60): the host's transactions, the core's turn,
and the fetch of a command word for `exec`. -/

namespace Sys2Proof.Machine

/-- Submit a word and run its command to completion: BUSY before the word is decoded (60_exceptions.md R108), BAD_CMD for an
illegal word (R109), else the command. -/
def runWord (w : Word) (s : State) : Host.Outcome State Fault Refusal :=
  if s.status.busy then .next (raiseCmdError .busy s)
  else
    match decode w with
    | .illegal _ => .next (raiseCmdError .badCmd s)
    | .command i => exec i s

/-- Put a move before the script. -/
def State.pushMove (m : Move) (s : State) : State := { s with script := m :: s.script }

/-- POLL: while BUSY = 1 the core runs a phase and the poll goes on; at BUSY = 0 the host has STATUS (30_encoding.md R60). -/
def pollStatus (s : State) : State :=
  if s.status.busy then (coreStep s).pushMove .poll else hostRead 0x01 s

/-- The effect of a move already taken from the script. -/
def perform (m : Move) (s : State) : Host.Outcome State Fault Refusal :=
  match m with
  | .write r v => .next (hostWrite r v s)
  | .read r => .next (hostRead r s)
  | .msg k v => hostMsg k v s
  | .rst => .next (resetEvent s)
  | .poll => .next (pollStatus s)
  | .run w => runWord w (s.pushMove .poll)
  | .core => .next (coreStep s)

/-- The next move of the script; when the host has none left the core goes on alone (weak fairness, 70_reset_and_hazards.md
R129). -/
def advance (s : State) : Host.Outcome State Fault Refusal :=
  match s.script with
  | [] => .next (coreStep s)
  | m :: rest => perform m { s with script := rest }

end Sys2Proof.Machine
end

