-- ==== Sys2Proof/Machine/Step.lean ====
section
/-! DEFINITION. One step of the machine, and where the host's checks put a command word. -/

namespace Sys2Proof.Machine

/-- One step: the next move (Machine/Moves.lean). -/
def step (s : State) : Host.Outcome State Fault Refusal := advance s

/-- `s` with the command word as the host's next move, `RUN w` of 30_encoding.md R60. The core fetches nothing: a command
word comes from the host's write to CMD (20_memory.md R51, log entry 3). -/
def State.withFetchWord (s : State) (nbits w : Nat) : State := s.pushMove (.run (tableWord nbits w))

end Sys2Proof.Machine
end

