-- ==== Sys2Proof/Safety.lean ====
section
/-! DEFINITION. What claims speak of beyond the machine itself: the invariant that holds from RST on, and runs of several
commands. A run is safe when it never faults; only a host MSG write outside the memory can (log entry 6). -/

namespace Sys2Proof.Machine

/-- The padding registers agree: PLEN is an acceptable length, NBLK its block count, BLKIDX at most NBLK (10_state.md R24
to R26, 40_preprocessor.md R63). -/
structure PaddingOk (s : State) : Prop where
  range : s.plen.toNat ≤ maxLen
  fits : s.plen.toNat ≤ s.msg.cap
  count : s.nblk.toNat = blockCount s.plen.toNat
  index : s.blkidx.toNat ≤ s.nblk.toNat

/-- The running command is COMPRESS, or HASH inside a compression, with its preconditions (44_hash.md R97, R101). -/
def CompressPhaseOk (s : State) : Prop :=
  (s.latch.opl = opcode .compress ∨ s.latch.opl = opcode .hash) ∧ s.status.hv = true ∧ s.status.blkv = true

/-- The phase belongs to the latched opcode and its preconditions hold (44_hash.md R97, R101). -/
def PhaseOk (s : State) : Prop :=
  match s.seq with
  | .idle => True
  | .nop => s.latch.opl = opcode .nop
  | .pad =>
    (s.latch.opl = opcode .pad ∨ s.latch.opl = opcode .hash) ∧ s.latch.lenl.toNat ≤ maxLen ∧
      s.latch.lenl.toNat ≤ s.msg.cap
  | .init =>
    s.latch.opl = opcode .init ∨
      (s.latch.opl = opcode .hash ∧ s.status.padded = true ∧ s.status.blkv = false)
  | .test =>
    s.latch.opl = opcode .hash ∧ s.status.padded = true ∧ s.status.hv = true ∧ s.status.blkv = false
  | .load =>
    (s.latch.opl = opcode .loadblk ∨ (s.latch.opl = opcode .hash ∧ s.status.hv = true)) ∧
      s.status.padded = true ∧ s.blkidx.toNat < s.nblk.toNat
  | .sched => CompressPhaseOk s
  | .expand i => CompressPhaseOk s ∧ 16 ≤ i.val
  | .seed => CompressPhaseOk s
  | .round _ => CompressPhaseOk s
  | .accum => CompressPhaseOk s
  | .ser =>
    (s.latch.opl = opcode .serialize ∨
      (s.latch.opl = opcode .hash ∧ s.status.padded = true ∧ s.blkidx = s.nblk ∧ s.status.blkv = false)) ∧
      s.status.hv = true
  | .alu => s.latch.opl = 0x10 ∨ s.latch.opl = 0x11 ∨ s.latch.opl = 0x12

/-- The invariant of every state from RST on. -/
structure Coherent (s : State) : Prop where
  /-- MSG is in its canonical form. -/
  memory : s.msg.wf = true
  /-- BUSY = (seq is not IDLE) (10_state.md R33). -/
  busySeq : s.status.busy = true ↔ s.seq ≠ .idle
  /-- ERR = 0 exactly when ERRCODE = 0x00 (10_state.md R21). -/
  errCode : s.status.err = false ↔ s.status.errcode = 0
  /-- Codes 0x09 to 0xFF are never reported (60_exceptions.md R105, 93 U11). -/
  knownCode : s.status.errcode.toNat ≤ 8
  /-- The padding registers agree whenever PADDED = 1 (10_state.md R24 to R26). -/
  padding : s.status.padded = true → PaddingOk s
  /-- A loaded block belongs to a padding, and BLKIDX has passed it. -/
  loaded : s.status.blkv = true → s.status.padded = true ∧ 0 < s.blkidx.toNat
  /-- An MSG write is remembered only while a LOADBLK or HASH runs. -/
  duty : s.touched = true → s.status.busy = true ∧ (runsLoadblk s || runsHash s) = true
  /-- The phase belongs to the running command. -/
  phase : PhaseOk s

/-- What every accepted and completed command leaves beside its own effect: the latch holds its operands, ERR and ERRCODE are
clear, the core is idle (44_hash.md R95, R96, R98). -/
def settled (i : Instr) (s : State) : State :=
  { s with
    latch := latchOf i s
    status := { s.status with busy := false, err := false, errcode := 0 }
    seq := .idle
    touched := false }

/-- `s` with the rejection code `code` reported, and nothing else changed (60_exceptions.md R106). -/
def reported (code : BitVec 8) (s : State) : State :=
  { s with status := { s.status with err := true, errcode := code } }

/-- Commands one after another, each run to completion. -/
def execAll : List Instr → State → Host.Outcome State Fault Refusal
  | [], s => .next s
  | i :: rest, s =>
    match exec i s with
    | .next t => execAll rest t
    | .fault f => .fault f
    | .refused r => .refused r

/-- The stepwise hash of a message of `n` bytes: PAD, INIT, NBLK times LOADBLK and COMPRESS, SERIALIZE (44_hash.md R103,
70_reset_and_hazards.md R122). -/
def stepwiseHash (n : Nat) : List Instr :=
  [.pad, .init] ++ (List.replicate (blockCount n) [Instr.loadblk, Instr.compress]).flatten ++ [.serialize]

end Sys2Proof.Machine
end

