-- ==== Sys2Proof/Certificates/Slice0/Obligations.lean ====
section
/-! DEFINITION. The statements for the provers. Each docstring names the rules a statement formalises. -/

open Sys2Proof Sys2Proof.Machine

/-! Encoding (30_encoding.md). -/

/-- R57: the verdict on every word, by its three fields, and what the submission of an illegal one to an idle core does. -/
def Obligations.DecodeFollowsFields : Prop :=
  ∀ w : Word,
    (reservedField w ≠ 0 → ∃ c, decode w = .illegal c) ∧
    (reservedField w = 0 →
      (opField w = 0x10 → decode w = .command (.rotr (shiftField w))) ∧
      (opField w = 0x11 → decode w = .command (.shr (shiftField w))) ∧
      (∀ p ∈ [((0x00 : BitVec 8), Instr.nop), (0x01, .hash), (0x02, .pad), (0x03, .init), (0x04, .loadblk),
          (0x05, .compress), (0x06, .serialize), (0x12, .add32)],
        opField w = p.1 →
          (shiftField w ≠ 0 → ∃ c, decode w = .illegal c) ∧ (shiftField w = 0 → decode w = .command p.2)) ∧
      (opField w ∉ [(0x00 : BitVec 8), 0x01, 0x02, 0x03, 0x04, 0x05, 0x06, 0x10, 0x11, 0x12] →
        ∃ c, decode w = .illegal c)) ∧
    ∀ (c : IllegalCause) (s : State), decode w = .illegal c → s.status.busy = false → submit w s = reported 0x01 s

/-- R56: mask and match decide each word, and no word matches two rows. -/
def Obligations.OpcodeMapDecides : Prop :=
  (∀ (w : Word) (r : OpcodeRow), r ∈ opcodeMap →
    (r.selects w = true ↔ ∃ i, decode w = .command i ∧ mnemonic i = r.mnemonic)) ∧
  (∀ (w : Word) (r q : OpcodeRow), r ∈ opcodeMap → q ∈ opcodeMap →
    r.selects w = true → q.selects w = true → r = q)

/-- R58: the illegal words are those with a reserved bit set, one of the opcodes 0x07 to 0x0F and 0x13 to 0xFF, or an N the
opcode does not take; an idle core rejects each with BAD_CMD and no other effect. -/
def Obligations.IllegalWordsAreTheReservedOnes : Prop :=
  ∀ w : Word,
    ((∃ c, decode w = .illegal c) ↔
      reservedField w ≠ 0 ∨ (0x07 ≤ (opField w).toNat ∧ (opField w).toNat ≤ 0x0F) ∨ 0x13 ≤ (opField w).toNat ∨
        (shiftField w ≠ 0 ∧ opField w ≠ 0x10 ∧ opField w ≠ 0x11)) ∧
    ((∃ c, decode w = .illegal c) ↔ CommandWord.wellFormed w = false) ∧
    ∀ (c : IllegalCause) (s : State), decode w = .illegal c → s.status.busy = false → submit w s = reported 0x01 s

/-- Every command is read back from its word, and no other word stands for it (R54, R57). -/
def Obligations.DecodeInvertsEncode : Prop :=
  ∀ (w : Word) (i : Instr), decode w = .command i ↔ w = encode i

/-- Command words written out from R59 and the vectors of section 6. -/
def Obligations.SpecWordsDecode : Prop :=
  decode 0x00000000 = .command .nop ∧ decode 0x00000001 = .command .hash ∧ decode 0x00000002 = .command .pad ∧
  decode 0x00000003 = .command .init ∧ decode 0x00000004 = .command .loadblk ∧
  decode 0x00000005 = .command .compress ∧ decode 0x00000006 = .command .serialize ∧
  decode 0x00000710 = .command (.rotr 7) ∧ decode 0x00001F11 = .command (.shr 31) ∧
  decode 0x00000012 = .command .add32 ∧ decode 0x00000007 = .illegal .unknownOpcode ∧
  decode 0x00000101 = .illegal .nonzeroShift ∧ decode 0x00002000 = .illegal .reservedBits

/-! Primitives and word functions (42_primitives.md, 41_compressor.md, 00_scope.md). -/

/-- R85: the formula, bit by bit, and rotr(x, 0) = x. -/
def Obligations.RotrMovesEachBit : Prop :=
  ∀ (x : Word) (n : Nat), n < 32 →
    (rotr x n).toNat = ((x.toNat >>> n) ||| (x.toNat <<< (32 - n))) % 2 ^ 32 ∧
    (∀ j, j < 32 → (rotr x n).getLsbD j = x.getLsbD ((j + n) % 32)) ∧
    rotr x 0 = x

/-- R86: floor division by 2^n, bit by bit, and shr(x, 0) = x. -/
def Obligations.ShrDividesByPower : Prop :=
  ∀ x : Word,
    (∀ n, (shr x n).toNat = x.toNat / 2 ^ n) ∧
    (∀ n j, (shr x n).getLsbD j = if j + n ≤ 31 then x.getLsbD (j + n) else false) ∧
    shr x 0 = x

/-- R87: the sum modulo 2^32; with the laws of R88 that the chained sums of four and five terms rest on. -/
def Obligations.AddWrapsModulo : Prop :=
  (∀ x y : Word, (add32 x y).toNat = (x.toNat + y.toNat) % 2 ^ 32) ∧
  (∀ x y : Word, add32 x y = add32 y x) ∧
  (∀ x y z : Word, add32 (add32 x y) z = add32 x (add32 y z)) ∧
  (∀ x : Word, add32 x 0 = x) ∧
  ∀ v x y z t : Word,
    (add32 (add32 (add32 (add32 v x) y) z) t).toNat =
      (v.toNat + x.toNat + y.toNat + z.toNat + t.toNat) % 2 ^ 32

/-- R74 and R76, bit by bit: ch takes f where e is 1 and g where e is 0; maj is the majority. -/
def Obligations.ChooseAndMajorityBits : Prop :=
  ∀ (x y z : Word) (j : Nat), j < 32 →
    (ch x y z).getLsbD j = (if x.getLsbD j then y.getLsbD j else z.getLsbD j) ∧
    (maj x y z).getLsbD j =
      decide (2 ≤ (x.getLsbD j).toNat + (y.getLsbD j).toNat + (z.getLsbD j).toNat)

/-- R71, R72, R73, R75, bit by bit: each function is the exclusive or of three moved copies of its argument. -/
def Obligations.WordFunctionsBitByBit : Prop :=
  ∀ (x : Word) (j : Nat), j < 32 →
    (schedS0 x).getLsbD j = ((x.getLsbD ((j + 7) % 32) ^^ x.getLsbD ((j + 18) % 32)) ^^ x.getLsbD (j + 3)) ∧
    (schedS1 x).getLsbD j = ((x.getLsbD ((j + 17) % 32) ^^ x.getLsbD ((j + 19) % 32)) ^^ x.getLsbD (j + 10)) ∧
    (roundS1 x).getLsbD j =
      ((x.getLsbD ((j + 6) % 32) ^^ x.getLsbD ((j + 11) % 32)) ^^ x.getLsbD ((j + 25) % 32)) ∧
    (roundS0 x).getLsbD j =
      ((x.getLsbD ((j + 2) % 32) ^^ x.getLsbD ((j + 13) % 32)) ^^ x.getLsbD ((j + 22) % 32))

/-- What R69 and R70 say of their tables, which the spec marks as general knowledge: IV[i] is the floor of sqrt(p) 2^32 and
K[i] that of cbrt(p) 2^32, modulo 2^32, for p the i-th prime; q is the part the reduction drops. -/
def Obligations.ConstantsAreRootsOfPrimes : Prop :=
  let primes := (List.range 312).filter fun p => decide (2 ≤ p) && (List.range p).all fun d => decide (d < 2) || p % d != 0
  (∀ i : Fin 8, ∃ q : Fin 8,
    (q.val * 2 ^ 32 + iv[i].toNat) ^ 2 ≤ primes.getD i.val 0 * 2 ^ 64 ∧
    primes.getD i.val 0 * 2 ^ 64 < (q.val * 2 ^ 32 + iv[i].toNat + 1) ^ 2) ∧
  ∀ i : Fin 64, ∃ q : Fin 8,
    (q.val * 2 ^ 32 + (roundK i).toNat) ^ 3 ≤ primes.getD i.val 0 * 2 ^ 96 ∧
    primes.getD i.val 0 * 2 ^ 96 < (q.val * 2 ^ 32 + (roundK i).toNat + 1) ^ 3

/-- R92: the arrangement of D, its 32 bytes as `serialize`, and its inverse through the host's DIGEST words. -/
def Obligations.SerializationIsBigEndian : Prop :=
  ∀ h : Vector Word 8,
    (∀ i : Fin 8,
      (digestOfWords h)[4 * i.val] = h[i].extractLsb' 24 8 ∧
      (digestOfWords h)[4 * i.val + 1] = h[i].extractLsb' 16 8 ∧
      (digestOfWords h)[4 * i.val + 2] = h[i].extractLsb' 8 8 ∧
      (digestOfWords h)[4 * i.val + 3] = h[i].extractLsb' 0 8) ∧
    (digestOfWords h).toList = serialize h ∧ (serialize h).length = 32 ∧
    ∀ i : Fin 8, digestWord (digestOfWords h) i = h[i]

/-! Padding and the schedule (40_preprocessor.md, 41_compressor.md). -/

/-- R62: K = (55 - n) mod 64 is the least count that fills the last block. -/
def Obligations.ZeroCountIsLeast : Prop :=
  ∀ n : Nat,
    (zeroCount n : Int) = (55 - (n : Int)) % 64 ∧ zeroCount n ≤ 63 ∧
    (n + 1 + zeroCount n + 8) % 64 = 0 ∧ ∀ k, (n + 1 + k + 8) % 64 = 0 → zeroCount n ≤ k

/-- The padded length is 64 NBLK, and NBLK is at most 2^55 + 1 in the range of lengths (R63). From 2^61 bytes on, where the spec
gives no padded message, it is the model's choice of log entry 16. -/
def Obligations.PaddedLengthIsWholeBlocks : Prop :=
  (∀ m : List Byte, (pad m).length = m.length + 1 + zeroCount m.length + 8 ∧
    (pad m).length = 64 * blockCount m.length) ∧
  ∀ n, n ≤ 2 ^ 61 - 1 → blockCount n ≤ 2 ^ 55 + 1

/-- The byte produced without building the padded message is its byte (R64). From 2^61 bytes on, where the spec gives no padded
message, both are the model's choice of log entry 16. -/
def Obligations.PadByteIsByteOfPaddedMessage : Prop :=
  ∀ (m : MsgMemory) (n k : Nat), k < 64 * blockCount n →
    (pad (m.message n))[k]? = some (padByte m n (blockCount n) k)

/-- The shape of the padded message, and its test zones (R66). From 2^61 bytes on, where the spec gives no padded message, the
length field is the model's choice of log entry 16. -/
def Obligations.PaddedMessageShape : Prop :=
  (∀ m : List Byte,
    (pad m).length % 64 = 0 ∧ (pad m).take m.length = m ∧ (pad m)[m.length]? = some 0x80 ∧
    (∀ k, m.length < k → k < 64 * blockCount m.length - 8 → (pad m)[k]? = some 0x00) ∧
    (pad m).drop (64 * blockCount m.length - 8) = bytes64 (BitVec.ofNat 64 (8 * m.length)) ∧
    (m.length / 64 + 1 = blockCount m.length ∨ m.length / 64 + 2 = blockCount m.length)) ∧
  zeroCount 55 = 0 ∧ blockCount 55 = 1 ∧ zeroCount 56 = 63 ∧ blockCount 56 = 2 ∧
  zeroCount 64 = 55 ∧ blockCount 64 = 2 ∧ zeroCount 0 = 55 ∧ blockCount 0 = 1

/-- R77 and R78: the sixteen block words, then the recurrence, in the finished schedule. -/
def Obligations.ScheduleMeetsRecurrence : Prop :=
  ∀ (b : Vector Byte 64) (v : Vector Word 64),
    (∀ t : Fin 16, (schedule b v)[t.val] = be32 b[4 * t.val] b[4 * t.val + 1] b[4 * t.val + 2] b[4 * t.val + 3]) ∧
    ∀ i : Fin 48,
      (schedule b v)[i.val + 16] =
        add32 (add32 (add32 (schedule b v)[i.val] (schedS0 (schedule b v)[i.val + 1])) (schedule b v)[i.val + 9])
          (schedS1 (schedule b v)[i.val + 14])

/-- R79 to R82: the compression seeds a..h from H, runs the 64 rounds over the schedule (whatever W held before), and adds
the last a..h back. `v i` is the working state before round i. -/
def Obligations.CompressionFollowsTheRounds : Prop :=
  ∀ (h : Vector Word 8) (b : Vector Byte 64) (w : Vector Word 64), ∃ v : Nat → Work,
    v 0 = ⟨h[0], h[1], h[2], h[3], h[4], h[5], h[6], h[7]⟩ ∧
    (∀ i : Fin 64,
      let x := v i.val
      let t1 := add32 (add32 (add32 (add32 x.h (roundS1 x.e)) (ch x.e x.f x.g)) (roundK i)) (schedule b w)[i]
      let t2 := add32 (roundS0 x.a) (maj x.a x.b x.c)
      v (i.val + 1) = ⟨add32 t1 t2, x.a, x.b, x.c, add32 x.d t1, x.e, x.f, x.g⟩) ∧
    compress h b =
      #v[add32 h[0] (v 64).a, add32 h[1] (v 64).b, add32 h[2] (v 64).c, add32 h[3] (v 64).d,
         add32 h[4] (v 64).e, add32 h[5] (v 64).f, add32 h[6] (v 64).g, add32 h[7] (v 64).h]

/-! The message memory (20_memory.md). -/

/-- A byte written is the byte read, at that address and no other (R39, R41); an address never written keeps the free value of
log entry 5. -/
def Obligations.MsgReadsWhatWasWritten : Prop :=
  ∀ (m : MsgMemory) (k j : Nat) (b : Byte),
    (m.writeByte k b).readByte j = if j = k then b else m.readByte j

/-- A host write below MSG_CAP lands, nothing else changes MSG, and MSG_CAP never changes (R38, R39, R53). The mark `touched`
of such a write while a LOADBLK or HASH runs is the model's choice (log entry 9). -/
def Obligations.OnlyHostWritesMsg : Prop :=
  (∀ (s : State) (k : DWord) (v : Byte) (rest : List Move), k.toNat < s.msg.cap →
    step { s with script := .msg k v :: rest } =
      .next
        { s with
          script := rest
          msg := s.msg.writeByte k.toNat v
          touched := s.touched || (s.status.busy && decide (s.latch.opl = 0x04 ∨ s.latch.opl = 0x01)) }) ∧
  ∀ s t : State, step s = .next t →
    t.msg.cap = s.msg.cap ∧
    (t.msg ≠ s.msg → ∃ k v rest, s.script = .msg k v :: rest ∧ k.toNat < s.msg.cap ∧
      t.msg = s.msg.writeByte k.toNat v)

/-! STATUS and the register map (10_state.md, 70_reset_and_hazards.md). -/

/-- R21: the place of every field of STATUS, the reserved bits 0. -/
def Obligations.StatusWordLayout : Prop :=
  ∀ x : Status,
    (statusWord x).getLsbD 0 = x.busy ∧ (statusWord x).getLsbD 1 = x.err ∧ (statusWord x).getLsbD 2 = x.padded ∧
    (statusWord x).getLsbD 3 = x.blkv ∧ (statusWord x).getLsbD 4 = x.hv ∧ (statusWord x).getLsbD 5 = x.dv ∧
    (statusWord x).extractLsb' 6 2 = 0 ∧ (statusWord x).extractLsb' 8 8 = x.errcode ∧
    (statusWord x).extractLsb' 16 16 = 0

/-- R18, R19, R20, R46: what a host read returns at every index while BUSY = 0; the read step gives the host that value and
changes nothing else. That the value stands in `readLog` is the model's choice (log entry 14). -/
def Obligations.IdleReadsFollowTheMap : Prop :=
  ∀ s : State, s.status.busy = false →
    (∀ r rest, step { s with script := .read r :: rest } =
      .next { s with script := rest, readLog := (r, readValue r s) :: s.readLog }) ∧
    readValue 0x00 s = 0 ∧ readValue 0x01 s = statusWord s.status ∧
    readValue 0x02 s = s.len.extractLsb' 0 32 ∧ readValue 0x03 s = s.len.extractLsb' 32 32 ∧
    readValue 0x04 s = s.nblk.extractLsb' 0 32 ∧ readValue 0x05 s = s.nblk.extractLsb' 32 32 ∧
    readValue 0x06 s = s.blkidx.extractLsb' 0 32 ∧ readValue 0x07 s = s.blkidx.extractLsb' 32 32 ∧
    readValue 0x08 s = s.aluA ∧ readValue 0x09 s = s.aluB ∧ readValue 0x0A s = s.aluR ∧
    (∀ i : Fin 8, readValue (BitVec.ofNat 8 (0x10 + i.val)) s = s.h[i]) ∧
    (∀ i : Fin 8, readValue (BitVec.ofNat 8 (0x18 + i.val)) s =
      be32 s.digest[4 * i.val] s.digest[4 * i.val + 1] s.digest[4 * i.val + 2] s.digest[4 * i.val + 3]) ∧
    (∀ k : Fin 16, readValue (BitVec.ofNat 8 (0x20 + k.val)) s =
      be32 s.block[4 * k.val] s.block[4 * k.val + 1] s.block[4 * k.val + 2] s.block[4 * k.val + 3]) ∧
    ∀ r : BitVec 8, (0x0B ≤ r.toNat ∧ r.toNat ≤ 0x0F) ∨ 0x30 ≤ r.toNat → readValue r s = 0

/-- A read while BUSY = 1 is exact where R124 says so, 0 at CMD and the reserved indices, and open elsewhere. The model's
choice (log entry 8) is that the open bits are those of the free word `Config.freeWord s.draws`, whatever that is, and that
the read step then counts one free word; that it gives the host the value in `readLog` is log entry 14. It changes nothing
else, so the running command is not disturbed. -/
def Obligations.BusyReadsAreExactOrFree : Prop :=
  ∀ s : State, s.status.busy = true →
    (readValue 0x01 s).getLsbD 0 = true ∧ (readValue 0x01 s).getLsbD 1 = s.status.err ∧
    (readValue 0x01 s).extractLsb' 2 4 = (Config.freeWord s.draws).extractLsb' 2 4 ∧
    (readValue 0x01 s).extractLsb' 6 2 = 0 ∧ (readValue 0x01 s).extractLsb' 8 8 = s.status.errcode ∧
    (readValue 0x01 s).extractLsb' 16 16 = 0 ∧
    readValue 0x02 s = s.len.extractLsb' 0 32 ∧ readValue 0x03 s = s.len.extractLsb' 32 32 ∧
    readValue 0x08 s = s.aluA ∧ readValue 0x09 s = s.aluB ∧
    (∀ r : BitVec 8, r = 0 ∨ (0x0B ≤ r.toNat ∧ r.toNat ≤ 0x0F) ∨ 0x30 ≤ r.toNat → readValue r s = 0) ∧
    (∀ r : BitVec 8,
      (0x04 ≤ r.toNat ∧ r.toNat ≤ 0x07) ∨ r.toNat = 0x0A ∨ (0x10 ≤ r.toNat ∧ r.toNat ≤ 0x2F) →
        readValue r s = Config.freeWord s.draws) ∧
    (∀ r rest, step { s with script := .read r :: rest } =
      .next { s with
              script := rest
              readLog := (r, readValue r s) :: s.readLog
              draws := s.draws + readDraws r s }) ∧
    ∀ r : BitVec 8, readDraws r s =
      if r.toNat = 0x01 ∨ (0x04 ≤ r.toNat ∧ r.toNat ≤ 0x07) ∨ r.toNat = 0x0A ∨ (0x10 ≤ r.toNat ∧ r.toNat ≤ 0x2F)
      then 1 else 0

/-- R19, R20 (with R18's writable registers): a host write stores into LEN_LO, LEN_HI, ALU_A or ALU_B, submits at CMD, and
changes nothing anywhere else; CMD and the reserved indices read 0 at all times. -/
def Obligations.HostWritesStoreOrVanish : Prop :=
  ∀ (s : State) (v : Word) (rest : List Move),
    step { s with script := .write 0x02 v :: rest } =
      .next { s with script := rest, len := s.len.extractLsb' 32 32 ++ v } ∧
    step { s with script := .write 0x03 v :: rest } =
      .next { s with script := rest, len := v ++ s.len.extractLsb' 0 32 } ∧
    step { s with script := .write 0x08 v :: rest } = .next { s with script := rest, aluA := v } ∧
    step { s with script := .write 0x09 v :: rest } = .next { s with script := rest, aluB := v } ∧
    step { s with script := .write 0x00 v :: rest } = .next (submit v { s with script := rest }) ∧
    (∀ r : BitVec 8, r ∉ [(0x00 : BitVec 8), 0x02, 0x03, 0x08, 0x09] →
      step { s with script := .write r v :: rest } = .next { s with script := rest }) ∧
    ∀ r : BitVec 8, r = 0 ∨ (0x0B ≤ r.toNat ∧ r.toNat ≤ 0x0F) ∨ 0x30 ≤ r.toNat → readValue r s = 0

/-- R119: RST from any state, whatever the core was doing. W, a..h and the latch are whatever the step leaves. -/
def Obligations.ResetEventClears : Prop :=
  ∀ (s : State) (rest : List Move), ∃ t, step { s with script := .rst :: rest } = .next t ∧
    t = { State.reset with
          w := t.w, work := t.work, latch := t.latch, draws := t.draws
          msg := s.msg, script := rest, readLog := s.readLog } ∧
    (∀ r, readValue r t = 0) ∧ t.status = ⟨false, false, false, false, false, false, 0⟩ ∧ t.seq = .idle ∧
    t.len = 0 ∧ t.plen = 0 ∧ t.nblk = 0 ∧ t.blkidx = 0 ∧ t.aluA = 0 ∧ t.aluB = 0 ∧ t.aluR = 0 ∧
    (∀ i : Fin 8, t.h[i] = 0) ∧ (∀ i : Fin 32, t.digest[i] = 0) ∧ ∀ i : Fin 64, t.block[i] = 0

/-- The state right after reset: every host-readable register reads 0, the core is idle, and COMPRESS and SERIALIZE are
rejected for want of a hash state (R119, R120). -/
def Obligations.ResetStateReadsZero : Prop :=
  (∀ r, readValue r State.reset = 0) ∧ State.reset.seq = .idle ∧ State.reset.status.busy = false ∧
  State.reset.status.hv = false ∧
  exec .compress State.reset = .next (reported 0x08 State.reset) ∧
  exec .serialize State.reset = .next (reported 0x08 State.reset)

/-! Submission, rejection and the sequencer (44_hash.md, 60_exceptions.md). -/

/-- R95 and R96: acceptance latches the word's fields and the host registers, clears ERR and ERRCODE, sets BUSY and enters
the first phase; nothing else changes. -/
def Obligations.AcceptanceLatchesOperands : Prop :=
  ∀ (w : Word) (i : Instr) (s : State), s.status.busy = false → decode w = .command i → check i s = none →
    submit w s =
      { s with
        latch := { opl := w.extractLsb' 0 8, nl := w.extractLsb' 8 5, al := s.aluA, bl := s.aluB, lenl := s.len }
        status := { s.status with busy := true, err := false, errcode := 0 }
        seq := firstPhase i
        touched := false }

/-- R94, R105, R106, R111: a submission reports the first failure in the order BUSY, BAD_CMD, the command's checks, and
changes ERR and ERRCODE alone; a command that passes every check is accepted. -/
def Obligations.SubmissionReportsTheFirstFailure : Prop :=
  ∀ (w : Word) (s : State),
    (s.status.busy = true → submit w s = reported 0x02 s) ∧
    (s.status.busy = false → ∀ c, decode w = .illegal c → submit w s = reported 0x01 s) ∧
    (s.status.busy = false → ∀ i, decode w = .command i →
      ((i = .pad ∨ i = .hash) → 2 ^ 61 - 1 < s.len.toNat → submit w s = reported 0x03 s) ∧
      ((i = .pad ∨ i = .hash) → s.len.toNat ≤ 2 ^ 61 - 1 → s.msg.cap < s.len.toNat → submit w s = reported 0x04 s) ∧
      (i = .loadblk → s.status.padded = false → submit w s = reported 0x05 s) ∧
      (i = .loadblk → s.status.padded = true → s.blkidx = s.nblk → submit w s = reported 0x06 s) ∧
      (i = .compress → s.status.hv = true → s.status.blkv = false → submit w s = reported 0x07 s) ∧
      ((i = .compress ∨ i = .serialize) → s.status.hv = false → submit w s = reported 0x08 s) ∧
      (((i = .pad ∨ i = .hash) → s.len.toNat ≤ 2 ^ 61 - 1 ∧ s.len.toNat ≤ s.msg.cap) →
        (i = .loadblk → s.status.padded = true ∧ s.blkidx ≠ s.nblk) →
        ((i = .compress ∨ i = .serialize) → s.status.hv = true) →
        (i = .compress → s.status.blkv = true) → submit w s = accept i s))

/-- R109: an illegal word submitted to an idle core, alone or run, reports BAD_CMD and changes nothing else. -/
def Obligations.IllegalWordReportsBadCmd : Prop :=
  ∀ (w : Word) (c : IllegalCause) (s : State) (rest : List Move), s.status.busy = false → decode w = .illegal c →
    step { s with script := .write 0x00 w :: rest } = .next (reported 0x01 { s with script := rest }) ∧
    step { s with script := .run w :: rest } = .next (reported 0x01 { s with script := .poll :: rest })

/-- R108: while BUSY = 1 any word, legal or not, reports BUSY; the running command goes on to the same end, with ERR = 1
and ERRCODE = 0x02 standing. -/
def Obligations.BusySubmissionIsDropped : Prop :=
  ∀ s : State, s.status.busy = true →
    (∀ w, submit w s = reported 0x02 s) ∧ (∀ i, exec i s = .next (reported 0x02 s)) ∧
    ∀ w n, coreRun n (submit w s) = reported 0x02 (coreRun n s)

/-- R104: no command faults or is refused, in any state. -/
def Obligations.CommandsNeverStop : Prop := ∀ (i : Instr) (s : State), ∃ t, exec i s = .next t

/-- The machine stops only on a host write outside MSG, an address that does not exist (R38, R53, R104; log entry 6 is
the model's choice of a fault there). -/
def Obligations.OnlyOutsideWriteStops : Prop :=
  ∀ s : State,
    (∀ r, step s ≠ .refused r) ∧
    ((∃ f, step s = .fault f) ↔ ∃ k v rest, s.script = .msg k v :: rest ∧ s.msg.cap ≤ k.toNat)

/-- A step runs the decoded command: when the host's next move is RUN w and w decodes to i, the step is exec of i, with POLL
as the next move (R60, R94). `withFetchWord` puts a command word there (log entry 3); that the command is one transition is
log entry 1. -/
def Obligations.StepRunsTheCommand : Prop :=
  (∀ (w : Word) (i : Instr) (s : State) (rest : List Move), decode w = .command i →
    step { s with script := .run w :: rest } = exec i { s with script := .poll :: rest }) ∧
  ∀ (i : Instr) (s : State),
    step (s.withFetchWord 32 (encode i).toNat) = exec i { s with script := .poll :: s.script }

/-- POLL reads STATUS until BUSY = 0 (R60). That the core runs one phase between two reads of the loop is the model's choice
(log entry 2). -/
def Obligations.PollWaitsForCompletion : Prop :=
  ∀ (s : State) (rest : List Move),
    (s.status.busy = true →
      step { s with script := .poll :: rest } = .next { coreStep s with script := .poll :: rest }) ∧
    (s.status.busy = false →
      step { s with script := .poll :: rest } =
        .next { s with script := rest, readLog := (0x01, statusWord s.status) :: s.readLog })

/-- The phases, their actions and their successors (R97); a successor IDLE is completion. When the core moves is the model's
choice (log entry 2): at a move `core` of the script, and at every step once the script is empty. -/
def Obligations.PhasesFollowTheTable : Prop :=
  ∀ s : State,
    (∀ rest, step { s with script := .core :: rest } = .next (coreStep { s with script := rest })) ∧
    (s.script = [] → step s = .next (coreStep s)) ∧
    (s.seq = .idle → coreStep s = s) ∧
    (s.seq = .nop → coreStep s = complete s) ∧
    (s.seq = .pad →
      coreStep s = if s.latch.opl = 0x01 then { padAction s with seq := .init } else complete (padAction s)) ∧
    (s.seq = .init →
      coreStep s = if s.latch.opl = 0x01 then { initAction s with seq := .test } else complete (initAction s)) ∧
    (s.seq = .test → coreStep s = if s.blkidx < s.nblk then { s with seq := .load } else { s with seq := .ser }) ∧
    (s.seq = .load →
      coreStep s = if s.latch.opl = 0x01 then { loadAction s with seq := .sched } else complete (loadAction s)) ∧
    (s.seq = .sched → coreStep s = { s with w := schedLoad s.block s.w, seq := .expand 16 }) ∧
    (∀ i : Fin 64, s.seq = .expand i →
      coreStep s = { s with w := s.w.set i (expandWord s.w i), seq := if i < 63 then .expand (i + 1) else .seed }) ∧
    (s.seq = .seed → coreStep s = { s with work := seedWork s.h, seq := .round 0 }) ∧
    (∀ i : Fin 64, s.seq = .round i →
      coreStep s = { s with work := roundAt s.w i s.work, seq := if i < 63 then .round (i + 1) else .accum }) ∧
    (s.seq = .accum →
      coreStep s = if s.latch.opl = 0x01 then { accumAction s with seq := .test } else complete (accumAction s)) ∧
    (s.seq = .ser → coreStep s = complete (serAction s)) ∧
    (s.seq = .alu → s.latch.opl = 0x10 → coreStep s = complete { s with aluR := rotr s.latch.al s.latch.nl.toNat }) ∧
    (s.seq = .alu → s.latch.opl = 0x11 → coreStep s = complete { s with aluR := shr s.latch.al s.latch.nl.toNat }) ∧
    (s.seq = .alu → s.latch.opl = 0x12 → coreStep s = complete { s with aluR := add32 s.latch.al s.latch.bl })

/-- R97 to R99, log entry 1: an accepted command, one phase at a time, is BUSY for exactly the phases the rule counts and
ends where its meaning says. -/
def Obligations.SequencerReachesTheMeaning : Prop :=
  ∀ (i : Instr) (s : State), s.status.busy = false → check i s = none →
    exec i s = .next (coreRun (phaseCount i s) (accept i s)) ∧
    ∀ k, k < phaseCount i s → (coreRun k (accept i s)).status.busy = true

/-- RUN w is CMD w followed by POLL (R60): the one step of the first, the model's choice of log entry 1, is reached by steps of
the second, the model's choice of log entry 2. -/
def Obligations.RunIsSubmitThenPoll : Prop :=
  ∀ (w : Word) (s : State) (rest : List Move), ∃ n t,
    step { s with script := .run w :: rest } = .next t ∧
    Host.Core.run Sys2Proof.core (n + 1) { s with script := .write 0x00 w :: .poll :: rest } = .next t

/-- R98: whatever phase it is in, the core comes to IDLE, with BUSY = 0 and ERR and ERRCODE as they were, and stays there. -/
def Obligations.EveryCommandCompletes : Prop :=
  ∀ s : State, s.seq ≠ .idle → ∃ n,
    (coreRun n s).seq = .idle ∧ (coreRun n s).status.busy = false ∧
    (coreRun n s).status.err = s.status.err ∧ (coreRun n s).status.errcode = s.status.errcode ∧
    ∀ m, n ≤ m → coreRun m s = coreRun n s

/-- R127: host writes to LEN, ALU_A and ALU_B between two phases do not reach the running command; and only PAD and HASH
sample LEN. -/
def Obligations.LatchShieldsTheCommand : Prop :=
  (∀ (n : Nat) (s : State) (v : DWord) (x y : Word),
    coreRun n { s with len := v, aluA := x, aluB := y } = { coreRun n s with len := v, aluA := x, aluB := y }) ∧
  ∀ (i : Instr) (s t : State) (v : DWord), i ≠ .pad → i ≠ .hash → exec i s = .next t →
    ∃ u, exec i { s with len := v } = .next u ∧ u = { t with len := v, latch := u.latch }

/-- An MSG write between two phases (R125) leaves PLEN, NBLK, BLKIDX, STATUS, the ALU registers and the course of the command
as they would have been. A LOADBLK so disturbed changes in BLOCK alone, and a command that is neither LOADBLK nor HASH not at
all. At completion BLOCK, and for HASH also H and DIGEST, are unspecified: the model's choice (log entries 8 and 9) is that
each of their words is the next free word, whatever that is. -/
def Obligations.MsgWriteWhileBusyIsConfined : Prop :=
  ∀ (n k : Nat) (b : Byte) (s : State), Coherent s → s.status.busy = true →
    let t := coreRun n s
    let u := coreRun n (storeMsg k b s)
    (u.plen = t.plen ∧ u.nblk = t.nblk ∧ u.blkidx = t.blkidx ∧ u.status = t.status ∧ u.seq = t.seq ∧
      u.aluA = t.aluA ∧ u.aluB = t.aluB ∧ u.aluR = t.aluR ∧ u.len = t.len ∧ u.latch = t.latch ∧
      u.msg = s.msg.writeByte k b) ∧
    (s.latch.opl = opcode .loadblk →
      u = { t with msg := u.msg, block := u.block, draws := u.draws, touched := u.touched } ∧
      (t.seq = .idle → ∀ j : Fin 16, blockWord u.block j = Config.freeWord (s.draws + j.val))) ∧
    (s.latch.opl = opcode .hash → t.seq = .idle →
      (∀ j : Fin 16, blockWord u.block j = Config.freeWord (s.draws + j.val)) ∧
      (∀ i : Fin 8, u.h[i] = Config.freeWord (s.draws + 16 + i.val)) ∧
      ∀ i : Fin 8, digestWord u.digest i = Config.freeWord (s.draws + 24 + i.val)) ∧
    (s.latch.opl ≠ opcode .loadblk → s.latch.opl ≠ opcode .hash → u = { t with msg := u.msg })

/-! The commands. Each of these says that the command completes, its result, and that nothing else changes. -/

/-- R100. -/
def Obligations.NopOnlyClearsTheError : Prop :=
  decode 0x00000000 = .command .nop ∧
  ∀ s : State,
    (s.status.busy = false → exec .nop s = .next (settled .nop s)) ∧
    (s.status.busy = true → exec .nop s = .next (reported 0x02 s))

/-- R67. -/
def Obligations.PadStartsAPadding : Prop :=
  decode 0x00000002 = .command .pad ∧
  ∀ s : State, s.status.busy = false →
    (2 ^ 61 - 1 < s.len.toNat → exec .pad s = .next (reported 0x03 s)) ∧
    (s.len.toNat ≤ 2 ^ 61 - 1 → s.msg.cap < s.len.toNat → exec .pad s = .next (reported 0x04 s)) ∧
    (s.len.toNat ≤ 2 ^ 61 - 1 → s.len.toNat ≤ s.msg.cap →
      exec .pad s = .next
        { settled .pad s with
          plen := s.len
          nblk := BitVec.ofNat 64 ((s.len.toNat + 8) / 64 + 1)
          blkidx := 0
          status := { s.status with busy := false, err := false, errcode := 0, padded := true, blkv := false } })

/-- R68. -/
def Obligations.LoadblkLoadsTheNextBlock : Prop :=
  decode 0x00000004 = .command .loadblk ∧
  ∀ s : State, s.status.busy = false →
    (s.status.padded = false → exec .loadblk s = .next (reported 0x05 s)) ∧
    (s.status.padded = true → s.blkidx = s.nblk → exec .loadblk s = .next (reported 0x06 s)) ∧
    (s.status.padded = true → s.blkidx ≠ s.nblk →
      exec .loadblk s = .next
        { settled .loadblk s with
          block := Vector.ofFn fun t : Fin 64 =>
            padByte s.msg s.plen.toNat s.nblk.toNat (64 * s.blkidx.toNat + t.val)
          blkidx := s.blkidx + 1
          status := { s.status with busy := false, err := false, errcode := 0, blkv := true } })

/-- LOADBLK depends on MSG only in its own block and below PLEN (R68, R41). -/
def Obligations.LoadblkReadsOnlyTheMessage : Prop :=
  ∀ (s : State) (m : MsgMemory),
    (∀ k, 64 * s.blkidx.toNat ≤ k → k < 64 * s.blkidx.toNat + 64 → k < s.plen.toNat → m.readByte k = s.msg.readByte k) →
    ∃ t, exec .loadblk s = .next t ∧ exec .loadblk { s with msg := m } = .next { t with msg := m }

/-- R83. -/
def Obligations.InitLoadsTheInitialValue : Prop :=
  decode 0x00000003 = .command .init ∧
  ∀ s : State, s.status.busy = false →
    exec .init s = .next
      { settled .init s with
        h := #v[0x6a09e667, 0xbb67ae85, 0x3c6ef372, 0xa54ff53a, 0x510e527f, 0x9b05688c, 0x1f83d9ab, 0x5be0cd19]
        status := { s.status with busy := false, err := false, errcode := 0, hv := true } }

/-- R84: H becomes compress(H, B), whatever W and a..h held; they are left as the step leaves them. -/
def Obligations.CompressAppliesTheFunction : Prop :=
  decode 0x00000005 = .command .compress ∧
  ∀ s : State, s.status.busy = false →
    (s.status.hv = false → exec .compress s = .next (reported 0x08 s)) ∧
    (s.status.hv = true → s.status.blkv = false → exec .compress s = .next (reported 0x07 s)) ∧
    (s.status.hv = true → s.status.blkv = true →
      ∃ t, exec .compress s = .next t ∧
        t = { settled .compress s with
              h := compress s.h s.block
              w := t.w
              work := t.work
              status := { s.status with busy := false, err := false, errcode := 0, blkv := false } })

/-- A loaded block cannot be compressed twice (R84). -/
def Obligations.SecondCompressIsRejected : Prop :=
  ∀ s : State, s.status.busy = false → s.status.hv = true → s.status.blkv = true →
    ∃ t, exec .compress s = .next t ∧ exec .compress t = .next (reported 0x07 t)

/-- R93, with R92. -/
def Obligations.SerializeWritesTheDigest : Prop :=
  decode 0x00000006 = .command .serialize ∧
  ∀ s : State, s.status.busy = false →
    (s.status.hv = false → exec .serialize s = .next (reported 0x08 s)) ∧
    (s.status.hv = true →
      ∃ t, exec .serialize s = .next t ∧
        t = { settled .serialize s with
              digest := t.digest
              status := { s.status with busy := false, err := false, errcode := 0, dv := true } } ∧
        t.digest.toList = serialize s.h ∧ ∀ i : Fin 8, digestWord t.digest i = s.h[i])

/-- R89. -/
def Obligations.RotrRotatesAluA : Prop :=
  ∀ n : BitVec 5, decode (0x00000010 ||| (n.zeroExtend 32 <<< 8)) = .command (.rotr n) ∧
    ∀ s : State, s.status.busy = false →
      exec (.rotr n) s = .next { settled (.rotr n) s with aluR := rotr s.aluA n.toNat }

/-- R90. -/
def Obligations.ShrShiftsAluA : Prop :=
  ∀ n : BitVec 5, decode (0x00000011 ||| (n.zeroExtend 32 <<< 8)) = .command (.shr n) ∧
    ∀ s : State, s.status.busy = false →
      exec (.shr n) s = .next { settled (.shr n) s with aluR := shr s.aluA n.toNat }

/-- R91, with R87: the sum modulo 2^32, the carry recorded nowhere. -/
def Obligations.AddSumsTheOperands : Prop :=
  decode 0x00000012 = .command .add32 ∧
  ∀ s : State, s.status.busy = false →
    exec .add32 s = .next { settled .add32 s with aluR := BitVec.ofNat 32 (s.aluA.toNat + s.aluB.toNat) }

/-- R101, R102: HASH completes with D = sha256(M), M = MSG[0..LEN), the end state of R101, and nothing else changed. -/
def Obligations.HashComputesSha256 : Prop :=
  decode 0x00000001 = .command .hash ∧
  ∀ s : State, s.status.busy = false →
    (2 ^ 61 - 1 < s.len.toNat → exec .hash s = .next (reported 0x03 s)) ∧
    (s.len.toNat ≤ 2 ^ 61 - 1 → s.msg.cap < s.len.toNat → exec .hash s = .next (reported 0x04 s)) ∧
    (s.len.toNat ≤ 2 ^ 61 - 1 → s.len.toNat ≤ s.msg.cap →
      ∃ t, exec .hash s = .next t ∧
        t = { settled .hash s with
              plen := s.len
              nblk := BitVec.ofNat 64 ((s.len.toNat + 8) / 64 + 1)
              blkidx := BitVec.ofNat 64 ((s.len.toNat + 8) / 64 + 1)
              block := blockOfBytes (pad (s.msg.message s.len.toNat)) ((s.len.toNat + 8) / 64)
              h := chain (pad (s.msg.message s.len.toNat))
              digest := t.digest
              w := t.w
              work := t.work
              status := ⟨false, false, true, false, true, true, 0⟩ } ∧
        t.digest.toList = sha256 (s.msg.message s.len.toNat) ∧ (∀ i : Fin 8, digestWord t.digest i = t.h[i]) ∧
        statusWord t.status = 0x00000034)

/-- R37: the result of HASH depends on LEN and the message bytes alone. -/
def Obligations.HashForgetsTheEarlierState : Prop :=
  ∀ s u : State, s.status.busy = false → u.status.busy = false → s.len = u.len →
    s.len.toNat ≤ 2 ^ 61 - 1 → s.len.toNat ≤ s.msg.cap → s.len.toNat ≤ u.msg.cap →
    (∀ k, k < s.len.toNat → s.msg.readByte k = u.msg.readByte k) →
    ∃ t v, exec .hash s = .next t ∧ exec .hash u = .next v ∧ t.digest = v.digest ∧ t.h = v.h ∧
      t.block = v.block ∧ t.status = v.status

/-- The stepwise run leaves what HASH leaves, but for the latch, which holds the last command's operands (R103); and a digest
has 32 bytes (R102). From 2^61 message bytes on, where the spec gives no digest, it is the model's choice of log entry 16. -/
def Obligations.StepwiseRunEqualsHash : Prop :=
  (∀ m : List Byte, (sha256 m).length = 32) ∧
  ∀ s : State, s.status.busy = false → s.len.toNat ≤ 2 ^ 61 - 1 → s.len.toNat ≤ s.msg.cap →
    ∃ t u, execAll (stepwiseHash s.len.toNat) s = .next t ∧ exec .hash s = .next u ∧
      { t with latch := u.latch } = u

/-! Whole-machine rules. -/

/-- R17's column 'written by': what each command may change. -/
def Obligations.CommandsWriteOnlyTheirElements : Prop :=
  ∀ (i : Instr) (s t : State), exec i s = .next t →
    t.len = s.len ∧ t.aluA = s.aluA ∧ t.aluB = s.aluB ∧ t.msg = s.msg ∧ t.script = s.script ∧
    t.readLog = s.readLog ∧
    (t.plen ≠ s.plen ∨ t.nblk ≠ s.nblk → i = .pad ∨ i = .hash) ∧
    (t.blkidx ≠ s.blkidx → i = .pad ∨ i = .loadblk ∨ i = .hash) ∧
    (t.block ≠ s.block → i = .loadblk ∨ i = .hash) ∧
    (t.h ≠ s.h → i = .init ∨ i = .compress ∨ i = .hash) ∧
    (t.digest ≠ s.digest → i = .serialize ∨ i = .hash) ∧
    (t.w ≠ s.w ∨ t.work ≠ s.work → i = .compress ∨ i = .hash) ∧
    (t.aluR ≠ s.aluR → (∃ n, i = .rotr n) ∨ (∃ n, i = .shr n) ∨ i = .add32)

/-- R22: the only commands that change each validity flag, and to what. -/
def Obligations.ValidityFlagsChangeOnlyBy : Prop :=
  ∀ (i : Instr) (s t : State), exec i s = .next t →
    (t.status.padded ≠ s.status.padded → t.status.padded = true ∧ (i = .pad ∨ i = .hash)) ∧
    (t.status.blkv ≠ s.status.blkv →
      (t.status.blkv = true ∧ i = .loadblk) ∨
      (t.status.blkv = false ∧ (i = .pad ∨ i = .compress ∨ i = .hash))) ∧
    (t.status.hv ≠ s.status.hv → t.status.hv = true ∧ (i = .init ∨ i = .hash)) ∧
    (t.status.dv ≠ s.status.dv → t.status.dv = true ∧ (i = .serialize ∨ i = .hash))

/-- The invariant holds right after reset. -/
def Obligations.InvariantHoldsAtReset : Prop := Coherent State.reset

/-- Every step keeps the invariant: BUSY agrees with seq, ERR with ERRCODE, the padding registers with each other, BLKIDX
stays within NBLK, the phase belongs to the latched opcode (R21, R24 to R26, R33, R97, R105); MSG keeps its canonical form
(log entry 5) and the model's own mark of MSG writes is set only under a LOADBLK or HASH (log entry 9). -/
def Obligations.InvariantIsKept : Prop := ∀ s t : State, Coherent s → step s = .next t → Coherent t
end

