-- ==== Sys2Proof/Laws/Bytes.lean ====
section
/-! SUPPORT. Packing and unpacking of words agree (00_scope.md R11, 20_memory.md R43). -/

namespace Sys2Proof.Machine

/-- The four bytes of a word are packed back into it. -/
@[simp] theorem be32_byteOfWord (w : Word) :
    be32 (byteOfWord w 0) (byteOfWord w 1) (byteOfWord w 2) (byteOfWord w 3) = w := by
  unfold be32 byteOfWord
  apply BitVec.eq_of_getLsbD_eq
  intro i hi
  simp only [BitVec.getLsbD_or, BitVec.getLsbD_shiftLeft, BitVec.getLsbD_setWidth, BitVec.getLsbD_extractLsb',
    BitVec.truncate_eq_setWidth]
  interval_cases i <;> simp

/-- A word packed into a block is read back. -/
@[simp] theorem blockWord_blockOfWords (x : Fin 16 → Word) (k : Fin 16) : blockWord (blockOfWords x) k = x k := by
  simp only [blockWord, blockOfWords, Vector.getElem_ofFn, Nat.mul_div_cancel_left _ (show 0 < 4 by decide),
    Nat.mul_add_div (show 0 < 4 by decide), Nat.mul_add_mod_self_left, Nat.mul_mod_right, Nat.reduceDiv, Nat.reduceMod,
    Nat.add_zero, Fin.eta, be32_byteOfWord]

end Sys2Proof.Machine
end

