-- ==== Sys2Proof/Laws/Memory.lean ====
section
/-! SUPPORT. The message memory keeps its canonical form under every operation. -/

namespace Sys2Proof.Machine

/-- A list that rises from `lo` still does after an insertion at or above `lo`. -/
theorem risingFrom_insert (cells : List Host.Cell) (lo k : Nat) (b : Byte) (hk : lo ≤ k)
    (h : MsgMemory.risingFrom lo cells = true) : MsgMemory.risingFrom lo (MsgMemory.insert cells k b) = true := by
  induction cells generalizing lo with
  | nil => simp [MsgMemory.insert, MsgMemory.risingFrom, hk]
  | cons c rest ih =>
    simp only [MsgMemory.risingFrom, Bool.and_eq_true, decide_eq_true_eq] at h
    unfold MsgMemory.insert
    split
    · simp only [MsgMemory.risingFrom, Bool.and_eq_true, decide_eq_true_eq]
      exact ⟨hk, by omega, h.2⟩
    · split
      · next hkc =>
        simp only [MsgMemory.risingFrom, Bool.and_eq_true, decide_eq_true_eq]
        exact ⟨hk, hkc ▸ h.2⟩
      · simp only [MsgMemory.risingFrom, Bool.and_eq_true, decide_eq_true_eq]
        exact ⟨h.1, ih (c.1 + 1) (by omega) h.2⟩

/-- Every address of the new list is the written one or was listed before. -/
theorem mem_insert (cells : List Host.Cell) (k : Nat) (b : Byte) (c : Host.Cell)
    (h : c ∈ MsgMemory.insert cells k b) : c.1 = k ∨ c ∈ cells := by
  induction cells with
  | nil => simp only [MsgMemory.insert, List.mem_singleton] at h; simp [h]
  | cons d rest ih =>
    unfold MsgMemory.insert at h
    split at h
    · rcases List.mem_cons.mp h with rfl | h
      · exact .inl rfl
      · exact .inr h
    · split at h
      · rcases List.mem_cons.mp h with rfl | h
        · exact .inl rfl
        · exact .inr (List.mem_cons_of_mem _ h)
      · rcases List.mem_cons.mp h with rfl | h
        · exact .inr (List.mem_cons_self ..)
        · exact (ih h).imp id (List.mem_cons_of_mem _)

/-- A write below MSG_CAP keeps the canonical form. -/
theorem wf_writeByte (m : MsgMemory) (k : Nat) (b : Byte) (hk : k < m.cap) (h : m.wf = true) :
    (m.writeByte k b).wf = true := by
  simp only [MsgMemory.wf, Bool.and_eq_true, List.all_eq_true, decide_eq_true_eq] at h ⊢
  refine ⟨risingFrom_insert _ _ _ _ (Nat.zero_le _) h.1, fun c hc => ?_⟩
  rcases mem_insert _ _ _ _ hc with hc | hc
  · exact hc ▸ hk
  · exact h.2 c hc

/-- The memory of `State.reset` has the canonical form. -/
theorem wf_reset : State.reset.msg.wf = true := rfl

@[simp] theorem writeByte_cap (m : MsgMemory) (k : Nat) (b : Byte) : (m.writeByte k b).cap = m.cap := rfl

end Sys2Proof.Machine
end

