-- ==== Sys2Proof/Laws/State.lean ====
section
/-! SUPPORT. Beside the state: what each named update does to each field, one lemma a field, true by `rfl`. No proof about
a step needs to unfold a record update. -/

namespace Sys2Proof.Machine

section statusUpdates

variable (x : Status)

@[simp] theorem rejectedStatus_busy (e : ErrCode) : (rejectedStatus x e).busy = x.busy := rfl
@[simp] theorem rejectedStatus_err (e : ErrCode) : (rejectedStatus x e).err = true := rfl
@[simp] theorem rejectedStatus_padded (e : ErrCode) : (rejectedStatus x e).padded = x.padded := rfl
@[simp] theorem rejectedStatus_blkv (e : ErrCode) : (rejectedStatus x e).blkv = x.blkv := rfl
@[simp] theorem rejectedStatus_hv (e : ErrCode) : (rejectedStatus x e).hv = x.hv := rfl
@[simp] theorem rejectedStatus_dv (e : ErrCode) : (rejectedStatus x e).dv = x.dv := rfl
@[simp] theorem rejectedStatus_errcode (e : ErrCode) : (rejectedStatus x e).errcode = errByte e := rfl

@[simp] theorem acceptedStatus_busy : (acceptedStatus x).busy = true := rfl
@[simp] theorem acceptedStatus_err : (acceptedStatus x).err = false := rfl
@[simp] theorem acceptedStatus_padded : (acceptedStatus x).padded = x.padded := rfl
@[simp] theorem acceptedStatus_blkv : (acceptedStatus x).blkv = x.blkv := rfl
@[simp] theorem acceptedStatus_hv : (acceptedStatus x).hv = x.hv := rfl
@[simp] theorem acceptedStatus_dv : (acceptedStatus x).dv = x.dv := rfl
@[simp] theorem acceptedStatus_errcode : (acceptedStatus x).errcode = 0 := rfl

@[simp] theorem completedStatus_busy : (completedStatus x).busy = false := rfl
@[simp] theorem completedStatus_err : (completedStatus x).err = x.err := rfl
@[simp] theorem completedStatus_padded : (completedStatus x).padded = x.padded := rfl
@[simp] theorem completedStatus_blkv : (completedStatus x).blkv = x.blkv := rfl
@[simp] theorem completedStatus_hv : (completedStatus x).hv = x.hv := rfl
@[simp] theorem completedStatus_dv : (completedStatus x).dv = x.dv := rfl
@[simp] theorem completedStatus_errcode : (completedStatus x).errcode = x.errcode := rfl

@[simp] theorem padStatus_busy : (padStatus x).busy = x.busy := rfl
@[simp] theorem padStatus_err : (padStatus x).err = x.err := rfl
@[simp] theorem padStatus_padded : (padStatus x).padded = true := rfl
@[simp] theorem padStatus_blkv : (padStatus x).blkv = false := rfl
@[simp] theorem padStatus_hv : (padStatus x).hv = x.hv := rfl
@[simp] theorem padStatus_dv : (padStatus x).dv = x.dv := rfl
@[simp] theorem padStatus_errcode : (padStatus x).errcode = x.errcode := rfl

@[simp] theorem initStatus_busy : (initStatus x).busy = x.busy := rfl
@[simp] theorem initStatus_err : (initStatus x).err = x.err := rfl
@[simp] theorem initStatus_padded : (initStatus x).padded = x.padded := rfl
@[simp] theorem initStatus_blkv : (initStatus x).blkv = x.blkv := rfl
@[simp] theorem initStatus_hv : (initStatus x).hv = true := rfl
@[simp] theorem initStatus_dv : (initStatus x).dv = x.dv := rfl
@[simp] theorem initStatus_errcode : (initStatus x).errcode = x.errcode := rfl

@[simp] theorem loadStatus_busy : (loadStatus x).busy = x.busy := rfl
@[simp] theorem loadStatus_err : (loadStatus x).err = x.err := rfl
@[simp] theorem loadStatus_padded : (loadStatus x).padded = x.padded := rfl
@[simp] theorem loadStatus_blkv : (loadStatus x).blkv = true := rfl
@[simp] theorem loadStatus_hv : (loadStatus x).hv = x.hv := rfl
@[simp] theorem loadStatus_dv : (loadStatus x).dv = x.dv := rfl
@[simp] theorem loadStatus_errcode : (loadStatus x).errcode = x.errcode := rfl

@[simp] theorem compressStatus_busy : (compressStatus x).busy = x.busy := rfl
@[simp] theorem compressStatus_err : (compressStatus x).err = x.err := rfl
@[simp] theorem compressStatus_padded : (compressStatus x).padded = x.padded := rfl
@[simp] theorem compressStatus_blkv : (compressStatus x).blkv = false := rfl
@[simp] theorem compressStatus_hv : (compressStatus x).hv = x.hv := rfl
@[simp] theorem compressStatus_dv : (compressStatus x).dv = x.dv := rfl
@[simp] theorem compressStatus_errcode : (compressStatus x).errcode = x.errcode := rfl

@[simp] theorem serializeStatus_busy : (serializeStatus x).busy = x.busy := rfl
@[simp] theorem serializeStatus_err : (serializeStatus x).err = x.err := rfl
@[simp] theorem serializeStatus_padded : (serializeStatus x).padded = x.padded := rfl
@[simp] theorem serializeStatus_blkv : (serializeStatus x).blkv = x.blkv := rfl
@[simp] theorem serializeStatus_hv : (serializeStatus x).hv = x.hv := rfl
@[simp] theorem serializeStatus_dv : (serializeStatus x).dv = true := rfl
@[simp] theorem serializeStatus_errcode : (serializeStatus x).errcode = x.errcode := rfl

end statusUpdates

section stateUpdates

variable (s : State)

@[simp] theorem raiseCmdError_status (e : ErrCode) : (raiseCmdError e s).status = rejectedStatus s.status e := rfl
@[simp] theorem raiseCmdError_len (e : ErrCode) : (raiseCmdError e s).len = s.len := rfl
@[simp] theorem raiseCmdError_plen (e : ErrCode) : (raiseCmdError e s).plen = s.plen := rfl
@[simp] theorem raiseCmdError_nblk (e : ErrCode) : (raiseCmdError e s).nblk = s.nblk := rfl
@[simp] theorem raiseCmdError_blkidx (e : ErrCode) : (raiseCmdError e s).blkidx = s.blkidx := rfl
@[simp] theorem raiseCmdError_block (e : ErrCode) : (raiseCmdError e s).block = s.block := rfl
@[simp] theorem raiseCmdError_h (e : ErrCode) : (raiseCmdError e s).h = s.h := rfl
@[simp] theorem raiseCmdError_digest (e : ErrCode) : (raiseCmdError e s).digest = s.digest := rfl
@[simp] theorem raiseCmdError_aluA (e : ErrCode) : (raiseCmdError e s).aluA = s.aluA := rfl
@[simp] theorem raiseCmdError_aluB (e : ErrCode) : (raiseCmdError e s).aluB = s.aluB := rfl
@[simp] theorem raiseCmdError_aluR (e : ErrCode) : (raiseCmdError e s).aluR = s.aluR := rfl
@[simp] theorem raiseCmdError_w (e : ErrCode) : (raiseCmdError e s).w = s.w := rfl
@[simp] theorem raiseCmdError_work (e : ErrCode) : (raiseCmdError e s).work = s.work := rfl
@[simp] theorem raiseCmdError_seq (e : ErrCode) : (raiseCmdError e s).seq = s.seq := rfl
@[simp] theorem raiseCmdError_latch (e : ErrCode) : (raiseCmdError e s).latch = s.latch := rfl
@[simp] theorem raiseCmdError_msg (e : ErrCode) : (raiseCmdError e s).msg = s.msg := rfl
@[simp] theorem raiseCmdError_script (e : ErrCode) : (raiseCmdError e s).script = s.script := rfl
@[simp] theorem raiseCmdError_readLog (e : ErrCode) : (raiseCmdError e s).readLog = s.readLog := rfl
@[simp] theorem raiseCmdError_draws (e : ErrCode) : (raiseCmdError e s).draws = s.draws := rfl
@[simp] theorem raiseCmdError_touched (e : ErrCode) : (raiseCmdError e s).touched = s.touched := rfl

@[simp] theorem accept_status (i : Instr) : (accept i s).status = acceptedStatus s.status := rfl
@[simp] theorem accept_len (i : Instr) : (accept i s).len = s.len := rfl
@[simp] theorem accept_plen (i : Instr) : (accept i s).plen = s.plen := rfl
@[simp] theorem accept_nblk (i : Instr) : (accept i s).nblk = s.nblk := rfl
@[simp] theorem accept_blkidx (i : Instr) : (accept i s).blkidx = s.blkidx := rfl
@[simp] theorem accept_block (i : Instr) : (accept i s).block = s.block := rfl
@[simp] theorem accept_h (i : Instr) : (accept i s).h = s.h := rfl
@[simp] theorem accept_digest (i : Instr) : (accept i s).digest = s.digest := rfl
@[simp] theorem accept_aluA (i : Instr) : (accept i s).aluA = s.aluA := rfl
@[simp] theorem accept_aluB (i : Instr) : (accept i s).aluB = s.aluB := rfl
@[simp] theorem accept_aluR (i : Instr) : (accept i s).aluR = s.aluR := rfl
@[simp] theorem accept_w (i : Instr) : (accept i s).w = s.w := rfl
@[simp] theorem accept_work (i : Instr) : (accept i s).work = s.work := rfl
@[simp] theorem accept_seq (i : Instr) : (accept i s).seq = firstPhase i := rfl
@[simp] theorem accept_latch (i : Instr) : (accept i s).latch = latchOf i s := rfl
@[simp] theorem accept_msg (i : Instr) : (accept i s).msg = s.msg := rfl
@[simp] theorem accept_script (i : Instr) : (accept i s).script = s.script := rfl
@[simp] theorem accept_readLog (i : Instr) : (accept i s).readLog = s.readLog := rfl
@[simp] theorem accept_draws (i : Instr) : (accept i s).draws = s.draws := rfl
@[simp] theorem accept_touched (i : Instr) : (accept i s).touched = false := rfl

@[simp] theorem toIdle_status : (toIdle s).status = completedStatus s.status := rfl
@[simp] theorem toIdle_len : (toIdle s).len = s.len := rfl
@[simp] theorem toIdle_plen : (toIdle s).plen = s.plen := rfl
@[simp] theorem toIdle_nblk : (toIdle s).nblk = s.nblk := rfl
@[simp] theorem toIdle_blkidx : (toIdle s).blkidx = s.blkidx := rfl
@[simp] theorem toIdle_block : (toIdle s).block = s.block := rfl
@[simp] theorem toIdle_h : (toIdle s).h = s.h := rfl
@[simp] theorem toIdle_digest : (toIdle s).digest = s.digest := rfl
@[simp] theorem toIdle_aluA : (toIdle s).aluA = s.aluA := rfl
@[simp] theorem toIdle_aluB : (toIdle s).aluB = s.aluB := rfl
@[simp] theorem toIdle_aluR : (toIdle s).aluR = s.aluR := rfl
@[simp] theorem toIdle_w : (toIdle s).w = s.w := rfl
@[simp] theorem toIdle_work : (toIdle s).work = s.work := rfl
@[simp] theorem toIdle_seq : (toIdle s).seq = .idle := rfl
@[simp] theorem toIdle_latch : (toIdle s).latch = s.latch := rfl
@[simp] theorem toIdle_msg : (toIdle s).msg = s.msg := rfl
@[simp] theorem toIdle_script : (toIdle s).script = s.script := rfl
@[simp] theorem toIdle_readLog : (toIdle s).readLog = s.readLog := rfl
@[simp] theorem toIdle_draws : (toIdle s).draws = s.draws := rfl
@[simp] theorem toIdle_touched : (toIdle s).touched = false := rfl

@[simp] theorem drawBlock_status : (drawBlock s).status = s.status := rfl
@[simp] theorem drawBlock_len : (drawBlock s).len = s.len := rfl
@[simp] theorem drawBlock_plen : (drawBlock s).plen = s.plen := rfl
@[simp] theorem drawBlock_nblk : (drawBlock s).nblk = s.nblk := rfl
@[simp] theorem drawBlock_blkidx : (drawBlock s).blkidx = s.blkidx := rfl
@[simp] theorem drawBlock_block : (drawBlock s).block = blockOfWords fun k => drawWord s k.val := rfl
@[simp] theorem drawBlock_h : (drawBlock s).h = s.h := rfl
@[simp] theorem drawBlock_digest : (drawBlock s).digest = s.digest := rfl
@[simp] theorem drawBlock_aluA : (drawBlock s).aluA = s.aluA := rfl
@[simp] theorem drawBlock_aluB : (drawBlock s).aluB = s.aluB := rfl
@[simp] theorem drawBlock_aluR : (drawBlock s).aluR = s.aluR := rfl
@[simp] theorem drawBlock_w : (drawBlock s).w = s.w := rfl
@[simp] theorem drawBlock_work : (drawBlock s).work = s.work := rfl
@[simp] theorem drawBlock_seq : (drawBlock s).seq = s.seq := rfl
@[simp] theorem drawBlock_latch : (drawBlock s).latch = s.latch := rfl
@[simp] theorem drawBlock_msg : (drawBlock s).msg = s.msg := rfl
@[simp] theorem drawBlock_script : (drawBlock s).script = s.script := rfl
@[simp] theorem drawBlock_readLog : (drawBlock s).readLog = s.readLog := rfl
@[simp] theorem drawBlock_draws : (drawBlock s).draws = s.draws + 16 := rfl
@[simp] theorem drawBlock_touched : (drawBlock s).touched = s.touched := rfl

@[simp] theorem drawResults_status : (drawResults s).status = s.status := rfl
@[simp] theorem drawResults_len : (drawResults s).len = s.len := rfl
@[simp] theorem drawResults_plen : (drawResults s).plen = s.plen := rfl
@[simp] theorem drawResults_nblk : (drawResults s).nblk = s.nblk := rfl
@[simp] theorem drawResults_blkidx : (drawResults s).blkidx = s.blkidx := rfl
@[simp] theorem drawResults_block : (drawResults s).block = blockOfWords fun k => drawWord s k.val := rfl
@[simp] theorem drawResults_h : (drawResults s).h = drawEight s 16 := rfl
@[simp] theorem drawResults_digest : (drawResults s).digest = digestOfWords (drawEight s 24) := rfl
@[simp] theorem drawResults_aluA : (drawResults s).aluA = s.aluA := rfl
@[simp] theorem drawResults_aluB : (drawResults s).aluB = s.aluB := rfl
@[simp] theorem drawResults_aluR : (drawResults s).aluR = s.aluR := rfl
@[simp] theorem drawResults_w : (drawResults s).w = s.w := rfl
@[simp] theorem drawResults_work : (drawResults s).work = s.work := rfl
@[simp] theorem drawResults_seq : (drawResults s).seq = s.seq := rfl
@[simp] theorem drawResults_latch : (drawResults s).latch = s.latch := rfl
@[simp] theorem drawResults_msg : (drawResults s).msg = s.msg := rfl
@[simp] theorem drawResults_script : (drawResults s).script = s.script := rfl
@[simp] theorem drawResults_readLog : (drawResults s).readLog = s.readLog := rfl
@[simp] theorem drawResults_draws : (drawResults s).draws = s.draws + 32 := rfl
@[simp] theorem drawResults_touched : (drawResults s).touched = s.touched := rfl

@[simp] theorem padAction_status : (padAction s).status = padStatus s.status := rfl
@[simp] theorem padAction_len : (padAction s).len = s.len := rfl
@[simp] theorem padAction_plen : (padAction s).plen = s.latch.lenl := rfl
@[simp] theorem padAction_nblk : (padAction s).nblk = BitVec.ofNat 64 (blockCount (lengthOperand s)) := rfl
@[simp] theorem padAction_blkidx : (padAction s).blkidx = 0 := rfl
@[simp] theorem padAction_block : (padAction s).block = s.block := rfl
@[simp] theorem padAction_h : (padAction s).h = s.h := rfl
@[simp] theorem padAction_digest : (padAction s).digest = s.digest := rfl
@[simp] theorem padAction_aluA : (padAction s).aluA = s.aluA := rfl
@[simp] theorem padAction_aluB : (padAction s).aluB = s.aluB := rfl
@[simp] theorem padAction_aluR : (padAction s).aluR = s.aluR := rfl
@[simp] theorem padAction_w : (padAction s).w = s.w := rfl
@[simp] theorem padAction_work : (padAction s).work = s.work := rfl
@[simp] theorem padAction_seq : (padAction s).seq = s.seq := rfl
@[simp] theorem padAction_latch : (padAction s).latch = s.latch := rfl
@[simp] theorem padAction_msg : (padAction s).msg = s.msg := rfl
@[simp] theorem padAction_script : (padAction s).script = s.script := rfl
@[simp] theorem padAction_readLog : (padAction s).readLog = s.readLog := rfl
@[simp] theorem padAction_draws : (padAction s).draws = s.draws := rfl
@[simp] theorem padAction_touched : (padAction s).touched = s.touched := rfl

@[simp] theorem initAction_status : (initAction s).status = initStatus s.status := rfl
@[simp] theorem initAction_len : (initAction s).len = s.len := rfl
@[simp] theorem initAction_plen : (initAction s).plen = s.plen := rfl
@[simp] theorem initAction_nblk : (initAction s).nblk = s.nblk := rfl
@[simp] theorem initAction_blkidx : (initAction s).blkidx = s.blkidx := rfl
@[simp] theorem initAction_block : (initAction s).block = s.block := rfl
@[simp] theorem initAction_h : (initAction s).h = iv := rfl
@[simp] theorem initAction_digest : (initAction s).digest = s.digest := rfl
@[simp] theorem initAction_aluA : (initAction s).aluA = s.aluA := rfl
@[simp] theorem initAction_aluB : (initAction s).aluB = s.aluB := rfl
@[simp] theorem initAction_aluR : (initAction s).aluR = s.aluR := rfl
@[simp] theorem initAction_w : (initAction s).w = s.w := rfl
@[simp] theorem initAction_work : (initAction s).work = s.work := rfl
@[simp] theorem initAction_seq : (initAction s).seq = s.seq := rfl
@[simp] theorem initAction_latch : (initAction s).latch = s.latch := rfl
@[simp] theorem initAction_msg : (initAction s).msg = s.msg := rfl
@[simp] theorem initAction_script : (initAction s).script = s.script := rfl
@[simp] theorem initAction_readLog : (initAction s).readLog = s.readLog := rfl
@[simp] theorem initAction_draws : (initAction s).draws = s.draws := rfl
@[simp] theorem initAction_touched : (initAction s).touched = s.touched := rfl

@[simp] theorem loadAction_status : (loadAction s).status = loadStatus s.status := rfl
@[simp] theorem loadAction_len : (loadAction s).len = s.len := rfl
@[simp] theorem loadAction_plen : (loadAction s).plen = s.plen := rfl
@[simp] theorem loadAction_nblk : (loadAction s).nblk = s.nblk := rfl
@[simp] theorem loadAction_blkidx : (loadAction s).blkidx = s.blkidx + 1 := rfl
@[simp] theorem loadAction_block : (loadAction s).block = paddedBlock s.msg s.plen.toNat s.nblk.toNat s.blkidx.toNat := rfl
@[simp] theorem loadAction_h : (loadAction s).h = s.h := rfl
@[simp] theorem loadAction_digest : (loadAction s).digest = s.digest := rfl
@[simp] theorem loadAction_aluA : (loadAction s).aluA = s.aluA := rfl
@[simp] theorem loadAction_aluB : (loadAction s).aluB = s.aluB := rfl
@[simp] theorem loadAction_aluR : (loadAction s).aluR = s.aluR := rfl
@[simp] theorem loadAction_w : (loadAction s).w = s.w := rfl
@[simp] theorem loadAction_work : (loadAction s).work = s.work := rfl
@[simp] theorem loadAction_seq : (loadAction s).seq = s.seq := rfl
@[simp] theorem loadAction_latch : (loadAction s).latch = s.latch := rfl
@[simp] theorem loadAction_msg : (loadAction s).msg = s.msg := rfl
@[simp] theorem loadAction_script : (loadAction s).script = s.script := rfl
@[simp] theorem loadAction_readLog : (loadAction s).readLog = s.readLog := rfl
@[simp] theorem loadAction_draws : (loadAction s).draws = s.draws := rfl
@[simp] theorem loadAction_touched : (loadAction s).touched = s.touched := rfl

@[simp] theorem schedAction_status : (schedAction s).status = s.status := rfl
@[simp] theorem schedAction_len : (schedAction s).len = s.len := rfl
@[simp] theorem schedAction_plen : (schedAction s).plen = s.plen := rfl
@[simp] theorem schedAction_nblk : (schedAction s).nblk = s.nblk := rfl
@[simp] theorem schedAction_blkidx : (schedAction s).blkidx = s.blkidx := rfl
@[simp] theorem schedAction_block : (schedAction s).block = s.block := rfl
@[simp] theorem schedAction_h : (schedAction s).h = s.h := rfl
@[simp] theorem schedAction_digest : (schedAction s).digest = s.digest := rfl
@[simp] theorem schedAction_aluA : (schedAction s).aluA = s.aluA := rfl
@[simp] theorem schedAction_aluB : (schedAction s).aluB = s.aluB := rfl
@[simp] theorem schedAction_aluR : (schedAction s).aluR = s.aluR := rfl
@[simp] theorem schedAction_w : (schedAction s).w = schedLoad s.block s.w := rfl
@[simp] theorem schedAction_work : (schedAction s).work = s.work := rfl
@[simp] theorem schedAction_seq : (schedAction s).seq = s.seq := rfl
@[simp] theorem schedAction_latch : (schedAction s).latch = s.latch := rfl
@[simp] theorem schedAction_msg : (schedAction s).msg = s.msg := rfl
@[simp] theorem schedAction_script : (schedAction s).script = s.script := rfl
@[simp] theorem schedAction_readLog : (schedAction s).readLog = s.readLog := rfl
@[simp] theorem schedAction_draws : (schedAction s).draws = s.draws := rfl
@[simp] theorem schedAction_touched : (schedAction s).touched = s.touched := rfl

@[simp] theorem expandAction_status (i : Fin 64) : (expandAction i s).status = s.status := rfl
@[simp] theorem expandAction_len (i : Fin 64) : (expandAction i s).len = s.len := rfl
@[simp] theorem expandAction_plen (i : Fin 64) : (expandAction i s).plen = s.plen := rfl
@[simp] theorem expandAction_nblk (i : Fin 64) : (expandAction i s).nblk = s.nblk := rfl
@[simp] theorem expandAction_blkidx (i : Fin 64) : (expandAction i s).blkidx = s.blkidx := rfl
@[simp] theorem expandAction_block (i : Fin 64) : (expandAction i s).block = s.block := rfl
@[simp] theorem expandAction_h (i : Fin 64) : (expandAction i s).h = s.h := rfl
@[simp] theorem expandAction_digest (i : Fin 64) : (expandAction i s).digest = s.digest := rfl
@[simp] theorem expandAction_aluA (i : Fin 64) : (expandAction i s).aluA = s.aluA := rfl
@[simp] theorem expandAction_aluB (i : Fin 64) : (expandAction i s).aluB = s.aluB := rfl
@[simp] theorem expandAction_aluR (i : Fin 64) : (expandAction i s).aluR = s.aluR := rfl
@[simp] theorem expandAction_w (i : Fin 64) : (expandAction i s).w = expandAt s.w i := rfl
@[simp] theorem expandAction_work (i : Fin 64) : (expandAction i s).work = s.work := rfl
@[simp] theorem expandAction_seq (i : Fin 64) : (expandAction i s).seq = s.seq := rfl
@[simp] theorem expandAction_latch (i : Fin 64) : (expandAction i s).latch = s.latch := rfl
@[simp] theorem expandAction_msg (i : Fin 64) : (expandAction i s).msg = s.msg := rfl
@[simp] theorem expandAction_script (i : Fin 64) : (expandAction i s).script = s.script := rfl
@[simp] theorem expandAction_readLog (i : Fin 64) : (expandAction i s).readLog = s.readLog := rfl
@[simp] theorem expandAction_draws (i : Fin 64) : (expandAction i s).draws = s.draws := rfl
@[simp] theorem expandAction_touched (i : Fin 64) : (expandAction i s).touched = s.touched := rfl

@[simp] theorem seedAction_status : (seedAction s).status = s.status := rfl
@[simp] theorem seedAction_len : (seedAction s).len = s.len := rfl
@[simp] theorem seedAction_plen : (seedAction s).plen = s.plen := rfl
@[simp] theorem seedAction_nblk : (seedAction s).nblk = s.nblk := rfl
@[simp] theorem seedAction_blkidx : (seedAction s).blkidx = s.blkidx := rfl
@[simp] theorem seedAction_block : (seedAction s).block = s.block := rfl
@[simp] theorem seedAction_h : (seedAction s).h = s.h := rfl
@[simp] theorem seedAction_digest : (seedAction s).digest = s.digest := rfl
@[simp] theorem seedAction_aluA : (seedAction s).aluA = s.aluA := rfl
@[simp] theorem seedAction_aluB : (seedAction s).aluB = s.aluB := rfl
@[simp] theorem seedAction_aluR : (seedAction s).aluR = s.aluR := rfl
@[simp] theorem seedAction_w : (seedAction s).w = s.w := rfl
@[simp] theorem seedAction_work : (seedAction s).work = seedWork s.h := rfl
@[simp] theorem seedAction_seq : (seedAction s).seq = s.seq := rfl
@[simp] theorem seedAction_latch : (seedAction s).latch = s.latch := rfl
@[simp] theorem seedAction_msg : (seedAction s).msg = s.msg := rfl
@[simp] theorem seedAction_script : (seedAction s).script = s.script := rfl
@[simp] theorem seedAction_readLog : (seedAction s).readLog = s.readLog := rfl
@[simp] theorem seedAction_draws : (seedAction s).draws = s.draws := rfl
@[simp] theorem seedAction_touched : (seedAction s).touched = s.touched := rfl

@[simp] theorem roundAction_status (i : Fin 64) : (roundAction i s).status = s.status := rfl
@[simp] theorem roundAction_len (i : Fin 64) : (roundAction i s).len = s.len := rfl
@[simp] theorem roundAction_plen (i : Fin 64) : (roundAction i s).plen = s.plen := rfl
@[simp] theorem roundAction_nblk (i : Fin 64) : (roundAction i s).nblk = s.nblk := rfl
@[simp] theorem roundAction_blkidx (i : Fin 64) : (roundAction i s).blkidx = s.blkidx := rfl
@[simp] theorem roundAction_block (i : Fin 64) : (roundAction i s).block = s.block := rfl
@[simp] theorem roundAction_h (i : Fin 64) : (roundAction i s).h = s.h := rfl
@[simp] theorem roundAction_digest (i : Fin 64) : (roundAction i s).digest = s.digest := rfl
@[simp] theorem roundAction_aluA (i : Fin 64) : (roundAction i s).aluA = s.aluA := rfl
@[simp] theorem roundAction_aluB (i : Fin 64) : (roundAction i s).aluB = s.aluB := rfl
@[simp] theorem roundAction_aluR (i : Fin 64) : (roundAction i s).aluR = s.aluR := rfl
@[simp] theorem roundAction_w (i : Fin 64) : (roundAction i s).w = s.w := rfl
@[simp] theorem roundAction_work (i : Fin 64) : (roundAction i s).work = roundAt s.w i s.work := rfl
@[simp] theorem roundAction_seq (i : Fin 64) : (roundAction i s).seq = s.seq := rfl
@[simp] theorem roundAction_latch (i : Fin 64) : (roundAction i s).latch = s.latch := rfl
@[simp] theorem roundAction_msg (i : Fin 64) : (roundAction i s).msg = s.msg := rfl
@[simp] theorem roundAction_script (i : Fin 64) : (roundAction i s).script = s.script := rfl
@[simp] theorem roundAction_readLog (i : Fin 64) : (roundAction i s).readLog = s.readLog := rfl
@[simp] theorem roundAction_draws (i : Fin 64) : (roundAction i s).draws = s.draws := rfl
@[simp] theorem roundAction_touched (i : Fin 64) : (roundAction i s).touched = s.touched := rfl

@[simp] theorem accumAction_status : (accumAction s).status = compressStatus s.status := rfl
@[simp] theorem accumAction_len : (accumAction s).len = s.len := rfl
@[simp] theorem accumAction_plen : (accumAction s).plen = s.plen := rfl
@[simp] theorem accumAction_nblk : (accumAction s).nblk = s.nblk := rfl
@[simp] theorem accumAction_blkidx : (accumAction s).blkidx = s.blkidx := rfl
@[simp] theorem accumAction_block : (accumAction s).block = s.block := rfl
@[simp] theorem accumAction_h : (accumAction s).h = accumulate s.h s.work := rfl
@[simp] theorem accumAction_digest : (accumAction s).digest = s.digest := rfl
@[simp] theorem accumAction_aluA : (accumAction s).aluA = s.aluA := rfl
@[simp] theorem accumAction_aluB : (accumAction s).aluB = s.aluB := rfl
@[simp] theorem accumAction_aluR : (accumAction s).aluR = s.aluR := rfl
@[simp] theorem accumAction_w : (accumAction s).w = s.w := rfl
@[simp] theorem accumAction_work : (accumAction s).work = s.work := rfl
@[simp] theorem accumAction_seq : (accumAction s).seq = s.seq := rfl
@[simp] theorem accumAction_latch : (accumAction s).latch = s.latch := rfl
@[simp] theorem accumAction_msg : (accumAction s).msg = s.msg := rfl
@[simp] theorem accumAction_script : (accumAction s).script = s.script := rfl
@[simp] theorem accumAction_readLog : (accumAction s).readLog = s.readLog := rfl
@[simp] theorem accumAction_draws : (accumAction s).draws = s.draws := rfl
@[simp] theorem accumAction_touched : (accumAction s).touched = s.touched := rfl

@[simp] theorem compressAction_status : (compressAction s).status = compressStatus s.status := rfl
@[simp] theorem compressAction_len : (compressAction s).len = s.len := rfl
@[simp] theorem compressAction_plen : (compressAction s).plen = s.plen := rfl
@[simp] theorem compressAction_nblk : (compressAction s).nblk = s.nblk := rfl
@[simp] theorem compressAction_blkidx : (compressAction s).blkidx = s.blkidx := rfl
@[simp] theorem compressAction_block : (compressAction s).block = s.block := rfl
@[simp] theorem compressAction_h : (compressAction s).h = accumulate s.h (roundsOf (schedule s.block s.w) s.h) := rfl
@[simp] theorem compressAction_digest : (compressAction s).digest = s.digest := rfl
@[simp] theorem compressAction_aluA : (compressAction s).aluA = s.aluA := rfl
@[simp] theorem compressAction_aluB : (compressAction s).aluB = s.aluB := rfl
@[simp] theorem compressAction_aluR : (compressAction s).aluR = s.aluR := rfl
@[simp] theorem compressAction_w : (compressAction s).w = schedule s.block s.w := rfl
@[simp] theorem compressAction_work : (compressAction s).work = roundsOf (schedule s.block s.w) s.h := rfl
@[simp] theorem compressAction_seq : (compressAction s).seq = s.seq := rfl
@[simp] theorem compressAction_latch : (compressAction s).latch = s.latch := rfl
@[simp] theorem compressAction_msg : (compressAction s).msg = s.msg := rfl
@[simp] theorem compressAction_script : (compressAction s).script = s.script := rfl
@[simp] theorem compressAction_readLog : (compressAction s).readLog = s.readLog := rfl
@[simp] theorem compressAction_draws : (compressAction s).draws = s.draws := rfl
@[simp] theorem compressAction_touched : (compressAction s).touched = s.touched := rfl

@[simp] theorem serAction_status : (serAction s).status = serializeStatus s.status := rfl
@[simp] theorem serAction_len : (serAction s).len = s.len := rfl
@[simp] theorem serAction_plen : (serAction s).plen = s.plen := rfl
@[simp] theorem serAction_nblk : (serAction s).nblk = s.nblk := rfl
@[simp] theorem serAction_blkidx : (serAction s).blkidx = s.blkidx := rfl
@[simp] theorem serAction_block : (serAction s).block = s.block := rfl
@[simp] theorem serAction_h : (serAction s).h = s.h := rfl
@[simp] theorem serAction_digest : (serAction s).digest = digestOfWords s.h := rfl
@[simp] theorem serAction_aluA : (serAction s).aluA = s.aluA := rfl
@[simp] theorem serAction_aluB : (serAction s).aluB = s.aluB := rfl
@[simp] theorem serAction_aluR : (serAction s).aluR = s.aluR := rfl
@[simp] theorem serAction_w : (serAction s).w = s.w := rfl
@[simp] theorem serAction_work : (serAction s).work = s.work := rfl
@[simp] theorem serAction_seq : (serAction s).seq = s.seq := rfl
@[simp] theorem serAction_latch : (serAction s).latch = s.latch := rfl
@[simp] theorem serAction_msg : (serAction s).msg = s.msg := rfl
@[simp] theorem serAction_script : (serAction s).script = s.script := rfl
@[simp] theorem serAction_readLog : (serAction s).readLog = s.readLog := rfl
@[simp] theorem serAction_draws : (serAction s).draws = s.draws := rfl
@[simp] theorem serAction_touched : (serAction s).touched = s.touched := rfl

@[simp] theorem rotrAction_status : (rotrAction s).status = s.status := rfl
@[simp] theorem rotrAction_len : (rotrAction s).len = s.len := rfl
@[simp] theorem rotrAction_plen : (rotrAction s).plen = s.plen := rfl
@[simp] theorem rotrAction_nblk : (rotrAction s).nblk = s.nblk := rfl
@[simp] theorem rotrAction_blkidx : (rotrAction s).blkidx = s.blkidx := rfl
@[simp] theorem rotrAction_block : (rotrAction s).block = s.block := rfl
@[simp] theorem rotrAction_h : (rotrAction s).h = s.h := rfl
@[simp] theorem rotrAction_digest : (rotrAction s).digest = s.digest := rfl
@[simp] theorem rotrAction_aluA : (rotrAction s).aluA = s.aluA := rfl
@[simp] theorem rotrAction_aluB : (rotrAction s).aluB = s.aluB := rfl
@[simp] theorem rotrAction_aluR : (rotrAction s).aluR = rotr (aluOperandA s) (shiftOperand s) := rfl
@[simp] theorem rotrAction_w : (rotrAction s).w = s.w := rfl
@[simp] theorem rotrAction_work : (rotrAction s).work = s.work := rfl
@[simp] theorem rotrAction_seq : (rotrAction s).seq = s.seq := rfl
@[simp] theorem rotrAction_latch : (rotrAction s).latch = s.latch := rfl
@[simp] theorem rotrAction_msg : (rotrAction s).msg = s.msg := rfl
@[simp] theorem rotrAction_script : (rotrAction s).script = s.script := rfl
@[simp] theorem rotrAction_readLog : (rotrAction s).readLog = s.readLog := rfl
@[simp] theorem rotrAction_draws : (rotrAction s).draws = s.draws := rfl
@[simp] theorem rotrAction_touched : (rotrAction s).touched = s.touched := rfl

@[simp] theorem shrAction_status : (shrAction s).status = s.status := rfl
@[simp] theorem shrAction_len : (shrAction s).len = s.len := rfl
@[simp] theorem shrAction_plen : (shrAction s).plen = s.plen := rfl
@[simp] theorem shrAction_nblk : (shrAction s).nblk = s.nblk := rfl
@[simp] theorem shrAction_blkidx : (shrAction s).blkidx = s.blkidx := rfl
@[simp] theorem shrAction_block : (shrAction s).block = s.block := rfl
@[simp] theorem shrAction_h : (shrAction s).h = s.h := rfl
@[simp] theorem shrAction_digest : (shrAction s).digest = s.digest := rfl
@[simp] theorem shrAction_aluA : (shrAction s).aluA = s.aluA := rfl
@[simp] theorem shrAction_aluB : (shrAction s).aluB = s.aluB := rfl
@[simp] theorem shrAction_aluR : (shrAction s).aluR = shr (aluOperandA s) (shiftOperand s) := rfl
@[simp] theorem shrAction_w : (shrAction s).w = s.w := rfl
@[simp] theorem shrAction_work : (shrAction s).work = s.work := rfl
@[simp] theorem shrAction_seq : (shrAction s).seq = s.seq := rfl
@[simp] theorem shrAction_latch : (shrAction s).latch = s.latch := rfl
@[simp] theorem shrAction_msg : (shrAction s).msg = s.msg := rfl
@[simp] theorem shrAction_script : (shrAction s).script = s.script := rfl
@[simp] theorem shrAction_readLog : (shrAction s).readLog = s.readLog := rfl
@[simp] theorem shrAction_draws : (shrAction s).draws = s.draws := rfl
@[simp] theorem shrAction_touched : (shrAction s).touched = s.touched := rfl

@[simp] theorem add32Action_status : (add32Action s).status = s.status := rfl
@[simp] theorem add32Action_len : (add32Action s).len = s.len := rfl
@[simp] theorem add32Action_plen : (add32Action s).plen = s.plen := rfl
@[simp] theorem add32Action_nblk : (add32Action s).nblk = s.nblk := rfl
@[simp] theorem add32Action_blkidx : (add32Action s).blkidx = s.blkidx := rfl
@[simp] theorem add32Action_block : (add32Action s).block = s.block := rfl
@[simp] theorem add32Action_h : (add32Action s).h = s.h := rfl
@[simp] theorem add32Action_digest : (add32Action s).digest = s.digest := rfl
@[simp] theorem add32Action_aluA : (add32Action s).aluA = s.aluA := rfl
@[simp] theorem add32Action_aluB : (add32Action s).aluB = s.aluB := rfl
@[simp] theorem add32Action_aluR : (add32Action s).aluR = add32 (aluOperandA s) (aluOperandB s) := rfl
@[simp] theorem add32Action_w : (add32Action s).w = s.w := rfl
@[simp] theorem add32Action_work : (add32Action s).work = s.work := rfl
@[simp] theorem add32Action_seq : (add32Action s).seq = s.seq := rfl
@[simp] theorem add32Action_latch : (add32Action s).latch = s.latch := rfl
@[simp] theorem add32Action_msg : (add32Action s).msg = s.msg := rfl
@[simp] theorem add32Action_script : (add32Action s).script = s.script := rfl
@[simp] theorem add32Action_readLog : (add32Action s).readLog = s.readLog := rfl
@[simp] theorem add32Action_draws : (add32Action s).draws = s.draws := rfl
@[simp] theorem add32Action_touched : (add32Action s).touched = s.touched := rfl

@[simp] theorem enter_status (p : Phase) : (enter p s).status = s.status := rfl
@[simp] theorem enter_len (p : Phase) : (enter p s).len = s.len := rfl
@[simp] theorem enter_plen (p : Phase) : (enter p s).plen = s.plen := rfl
@[simp] theorem enter_nblk (p : Phase) : (enter p s).nblk = s.nblk := rfl
@[simp] theorem enter_blkidx (p : Phase) : (enter p s).blkidx = s.blkidx := rfl
@[simp] theorem enter_block (p : Phase) : (enter p s).block = s.block := rfl
@[simp] theorem enter_h (p : Phase) : (enter p s).h = s.h := rfl
@[simp] theorem enter_digest (p : Phase) : (enter p s).digest = s.digest := rfl
@[simp] theorem enter_aluA (p : Phase) : (enter p s).aluA = s.aluA := rfl
@[simp] theorem enter_aluB (p : Phase) : (enter p s).aluB = s.aluB := rfl
@[simp] theorem enter_aluR (p : Phase) : (enter p s).aluR = s.aluR := rfl
@[simp] theorem enter_w (p : Phase) : (enter p s).w = s.w := rfl
@[simp] theorem enter_work (p : Phase) : (enter p s).work = s.work := rfl
@[simp] theorem enter_seq (p : Phase) : (enter p s).seq = p := rfl
@[simp] theorem enter_latch (p : Phase) : (enter p s).latch = s.latch := rfl
@[simp] theorem enter_msg (p : Phase) : (enter p s).msg = s.msg := rfl
@[simp] theorem enter_script (p : Phase) : (enter p s).script = s.script := rfl
@[simp] theorem enter_readLog (p : Phase) : (enter p s).readLog = s.readLog := rfl
@[simp] theorem enter_draws (p : Phase) : (enter p s).draws = s.draws := rfl
@[simp] theorem enter_touched (p : Phase) : (enter p s).touched = s.touched := rfl

@[simp] theorem hostRead_status (r : BitVec 8) : (hostRead r s).status = s.status := rfl
@[simp] theorem hostRead_len (r : BitVec 8) : (hostRead r s).len = s.len := rfl
@[simp] theorem hostRead_plen (r : BitVec 8) : (hostRead r s).plen = s.plen := rfl
@[simp] theorem hostRead_nblk (r : BitVec 8) : (hostRead r s).nblk = s.nblk := rfl
@[simp] theorem hostRead_blkidx (r : BitVec 8) : (hostRead r s).blkidx = s.blkidx := rfl
@[simp] theorem hostRead_block (r : BitVec 8) : (hostRead r s).block = s.block := rfl
@[simp] theorem hostRead_h (r : BitVec 8) : (hostRead r s).h = s.h := rfl
@[simp] theorem hostRead_digest (r : BitVec 8) : (hostRead r s).digest = s.digest := rfl
@[simp] theorem hostRead_aluA (r : BitVec 8) : (hostRead r s).aluA = s.aluA := rfl
@[simp] theorem hostRead_aluB (r : BitVec 8) : (hostRead r s).aluB = s.aluB := rfl
@[simp] theorem hostRead_aluR (r : BitVec 8) : (hostRead r s).aluR = s.aluR := rfl
@[simp] theorem hostRead_w (r : BitVec 8) : (hostRead r s).w = s.w := rfl
@[simp] theorem hostRead_work (r : BitVec 8) : (hostRead r s).work = s.work := rfl
@[simp] theorem hostRead_seq (r : BitVec 8) : (hostRead r s).seq = s.seq := rfl
@[simp] theorem hostRead_latch (r : BitVec 8) : (hostRead r s).latch = s.latch := rfl
@[simp] theorem hostRead_msg (r : BitVec 8) : (hostRead r s).msg = s.msg := rfl
@[simp] theorem hostRead_script (r : BitVec 8) : (hostRead r s).script = s.script := rfl
@[simp] theorem hostRead_readLog (r : BitVec 8) : (hostRead r s).readLog = (r, readValue r s) :: s.readLog := rfl
@[simp] theorem hostRead_draws (r : BitVec 8) : (hostRead r s).draws = s.draws + readDraws r s := rfl
@[simp] theorem hostRead_touched (r : BitVec 8) : (hostRead r s).touched = s.touched := rfl

@[simp] theorem writeLenLo_status (v : Word) : (writeLenLo v s).status = s.status := rfl
@[simp] theorem writeLenLo_len (v : Word) : (writeLenLo v s).len = joinHalves (highHalf s.len) v := rfl
@[simp] theorem writeLenLo_plen (v : Word) : (writeLenLo v s).plen = s.plen := rfl
@[simp] theorem writeLenLo_nblk (v : Word) : (writeLenLo v s).nblk = s.nblk := rfl
@[simp] theorem writeLenLo_blkidx (v : Word) : (writeLenLo v s).blkidx = s.blkidx := rfl
@[simp] theorem writeLenLo_block (v : Word) : (writeLenLo v s).block = s.block := rfl
@[simp] theorem writeLenLo_h (v : Word) : (writeLenLo v s).h = s.h := rfl
@[simp] theorem writeLenLo_digest (v : Word) : (writeLenLo v s).digest = s.digest := rfl
@[simp] theorem writeLenLo_aluA (v : Word) : (writeLenLo v s).aluA = s.aluA := rfl
@[simp] theorem writeLenLo_aluB (v : Word) : (writeLenLo v s).aluB = s.aluB := rfl
@[simp] theorem writeLenLo_aluR (v : Word) : (writeLenLo v s).aluR = s.aluR := rfl
@[simp] theorem writeLenLo_w (v : Word) : (writeLenLo v s).w = s.w := rfl
@[simp] theorem writeLenLo_work (v : Word) : (writeLenLo v s).work = s.work := rfl
@[simp] theorem writeLenLo_seq (v : Word) : (writeLenLo v s).seq = s.seq := rfl
@[simp] theorem writeLenLo_latch (v : Word) : (writeLenLo v s).latch = s.latch := rfl
@[simp] theorem writeLenLo_msg (v : Word) : (writeLenLo v s).msg = s.msg := rfl
@[simp] theorem writeLenLo_script (v : Word) : (writeLenLo v s).script = s.script := rfl
@[simp] theorem writeLenLo_readLog (v : Word) : (writeLenLo v s).readLog = s.readLog := rfl
@[simp] theorem writeLenLo_draws (v : Word) : (writeLenLo v s).draws = s.draws := rfl
@[simp] theorem writeLenLo_touched (v : Word) : (writeLenLo v s).touched = s.touched := rfl

@[simp] theorem writeLenHi_status (v : Word) : (writeLenHi v s).status = s.status := rfl
@[simp] theorem writeLenHi_len (v : Word) : (writeLenHi v s).len = joinHalves v (lowHalf s.len) := rfl
@[simp] theorem writeLenHi_plen (v : Word) : (writeLenHi v s).plen = s.plen := rfl
@[simp] theorem writeLenHi_nblk (v : Word) : (writeLenHi v s).nblk = s.nblk := rfl
@[simp] theorem writeLenHi_blkidx (v : Word) : (writeLenHi v s).blkidx = s.blkidx := rfl
@[simp] theorem writeLenHi_block (v : Word) : (writeLenHi v s).block = s.block := rfl
@[simp] theorem writeLenHi_h (v : Word) : (writeLenHi v s).h = s.h := rfl
@[simp] theorem writeLenHi_digest (v : Word) : (writeLenHi v s).digest = s.digest := rfl
@[simp] theorem writeLenHi_aluA (v : Word) : (writeLenHi v s).aluA = s.aluA := rfl
@[simp] theorem writeLenHi_aluB (v : Word) : (writeLenHi v s).aluB = s.aluB := rfl
@[simp] theorem writeLenHi_aluR (v : Word) : (writeLenHi v s).aluR = s.aluR := rfl
@[simp] theorem writeLenHi_w (v : Word) : (writeLenHi v s).w = s.w := rfl
@[simp] theorem writeLenHi_work (v : Word) : (writeLenHi v s).work = s.work := rfl
@[simp] theorem writeLenHi_seq (v : Word) : (writeLenHi v s).seq = s.seq := rfl
@[simp] theorem writeLenHi_latch (v : Word) : (writeLenHi v s).latch = s.latch := rfl
@[simp] theorem writeLenHi_msg (v : Word) : (writeLenHi v s).msg = s.msg := rfl
@[simp] theorem writeLenHi_script (v : Word) : (writeLenHi v s).script = s.script := rfl
@[simp] theorem writeLenHi_readLog (v : Word) : (writeLenHi v s).readLog = s.readLog := rfl
@[simp] theorem writeLenHi_draws (v : Word) : (writeLenHi v s).draws = s.draws := rfl
@[simp] theorem writeLenHi_touched (v : Word) : (writeLenHi v s).touched = s.touched := rfl

@[simp] theorem writeAluA_status (v : Word) : (writeAluA v s).status = s.status := rfl
@[simp] theorem writeAluA_len (v : Word) : (writeAluA v s).len = s.len := rfl
@[simp] theorem writeAluA_plen (v : Word) : (writeAluA v s).plen = s.plen := rfl
@[simp] theorem writeAluA_nblk (v : Word) : (writeAluA v s).nblk = s.nblk := rfl
@[simp] theorem writeAluA_blkidx (v : Word) : (writeAluA v s).blkidx = s.blkidx := rfl
@[simp] theorem writeAluA_block (v : Word) : (writeAluA v s).block = s.block := rfl
@[simp] theorem writeAluA_h (v : Word) : (writeAluA v s).h = s.h := rfl
@[simp] theorem writeAluA_digest (v : Word) : (writeAluA v s).digest = s.digest := rfl
@[simp] theorem writeAluA_aluA (v : Word) : (writeAluA v s).aluA = v := rfl
@[simp] theorem writeAluA_aluB (v : Word) : (writeAluA v s).aluB = s.aluB := rfl
@[simp] theorem writeAluA_aluR (v : Word) : (writeAluA v s).aluR = s.aluR := rfl
@[simp] theorem writeAluA_w (v : Word) : (writeAluA v s).w = s.w := rfl
@[simp] theorem writeAluA_work (v : Word) : (writeAluA v s).work = s.work := rfl
@[simp] theorem writeAluA_seq (v : Word) : (writeAluA v s).seq = s.seq := rfl
@[simp] theorem writeAluA_latch (v : Word) : (writeAluA v s).latch = s.latch := rfl
@[simp] theorem writeAluA_msg (v : Word) : (writeAluA v s).msg = s.msg := rfl
@[simp] theorem writeAluA_script (v : Word) : (writeAluA v s).script = s.script := rfl
@[simp] theorem writeAluA_readLog (v : Word) : (writeAluA v s).readLog = s.readLog := rfl
@[simp] theorem writeAluA_draws (v : Word) : (writeAluA v s).draws = s.draws := rfl
@[simp] theorem writeAluA_touched (v : Word) : (writeAluA v s).touched = s.touched := rfl

@[simp] theorem writeAluB_status (v : Word) : (writeAluB v s).status = s.status := rfl
@[simp] theorem writeAluB_len (v : Word) : (writeAluB v s).len = s.len := rfl
@[simp] theorem writeAluB_plen (v : Word) : (writeAluB v s).plen = s.plen := rfl
@[simp] theorem writeAluB_nblk (v : Word) : (writeAluB v s).nblk = s.nblk := rfl
@[simp] theorem writeAluB_blkidx (v : Word) : (writeAluB v s).blkidx = s.blkidx := rfl
@[simp] theorem writeAluB_block (v : Word) : (writeAluB v s).block = s.block := rfl
@[simp] theorem writeAluB_h (v : Word) : (writeAluB v s).h = s.h := rfl
@[simp] theorem writeAluB_digest (v : Word) : (writeAluB v s).digest = s.digest := rfl
@[simp] theorem writeAluB_aluA (v : Word) : (writeAluB v s).aluA = s.aluA := rfl
@[simp] theorem writeAluB_aluB (v : Word) : (writeAluB v s).aluB = v := rfl
@[simp] theorem writeAluB_aluR (v : Word) : (writeAluB v s).aluR = s.aluR := rfl
@[simp] theorem writeAluB_w (v : Word) : (writeAluB v s).w = s.w := rfl
@[simp] theorem writeAluB_work (v : Word) : (writeAluB v s).work = s.work := rfl
@[simp] theorem writeAluB_seq (v : Word) : (writeAluB v s).seq = s.seq := rfl
@[simp] theorem writeAluB_latch (v : Word) : (writeAluB v s).latch = s.latch := rfl
@[simp] theorem writeAluB_msg (v : Word) : (writeAluB v s).msg = s.msg := rfl
@[simp] theorem writeAluB_script (v : Word) : (writeAluB v s).script = s.script := rfl
@[simp] theorem writeAluB_readLog (v : Word) : (writeAluB v s).readLog = s.readLog := rfl
@[simp] theorem writeAluB_draws (v : Word) : (writeAluB v s).draws = s.draws := rfl
@[simp] theorem writeAluB_touched (v : Word) : (writeAluB v s).touched = s.touched := rfl

@[simp] theorem storeMsg_status (k : Nat) (b : Byte) : (storeMsg k b s).status = s.status := rfl
@[simp] theorem storeMsg_len (k : Nat) (b : Byte) : (storeMsg k b s).len = s.len := rfl
@[simp] theorem storeMsg_plen (k : Nat) (b : Byte) : (storeMsg k b s).plen = s.plen := rfl
@[simp] theorem storeMsg_nblk (k : Nat) (b : Byte) : (storeMsg k b s).nblk = s.nblk := rfl
@[simp] theorem storeMsg_blkidx (k : Nat) (b : Byte) : (storeMsg k b s).blkidx = s.blkidx := rfl
@[simp] theorem storeMsg_block (k : Nat) (b : Byte) : (storeMsg k b s).block = s.block := rfl
@[simp] theorem storeMsg_h (k : Nat) (b : Byte) : (storeMsg k b s).h = s.h := rfl
@[simp] theorem storeMsg_digest (k : Nat) (b : Byte) : (storeMsg k b s).digest = s.digest := rfl
@[simp] theorem storeMsg_aluA (k : Nat) (b : Byte) : (storeMsg k b s).aluA = s.aluA := rfl
@[simp] theorem storeMsg_aluB (k : Nat) (b : Byte) : (storeMsg k b s).aluB = s.aluB := rfl
@[simp] theorem storeMsg_aluR (k : Nat) (b : Byte) : (storeMsg k b s).aluR = s.aluR := rfl
@[simp] theorem storeMsg_w (k : Nat) (b : Byte) : (storeMsg k b s).w = s.w := rfl
@[simp] theorem storeMsg_work (k : Nat) (b : Byte) : (storeMsg k b s).work = s.work := rfl
@[simp] theorem storeMsg_seq (k : Nat) (b : Byte) : (storeMsg k b s).seq = s.seq := rfl
@[simp] theorem storeMsg_latch (k : Nat) (b : Byte) : (storeMsg k b s).latch = s.latch := rfl
@[simp] theorem storeMsg_msg (k : Nat) (b : Byte) : (storeMsg k b s).msg = s.msg.writeByte k b := rfl
@[simp] theorem storeMsg_script (k : Nat) (b : Byte) : (storeMsg k b s).script = s.script := rfl
@[simp] theorem storeMsg_readLog (k : Nat) (b : Byte) : (storeMsg k b s).readLog = s.readLog := rfl
@[simp] theorem storeMsg_draws (k : Nat) (b : Byte) : (storeMsg k b s).draws = s.draws := rfl
@[simp] theorem storeMsg_touched (k : Nat) (b : Byte) : (storeMsg k b s).touched = (s.touched || (s.status.busy && (runsLoadblk s || runsHash s))) := rfl

@[simp] theorem State.pushMove_status (m : Move) : (State.pushMove m s).status = s.status := rfl
@[simp] theorem State.pushMove_len (m : Move) : (State.pushMove m s).len = s.len := rfl
@[simp] theorem State.pushMove_plen (m : Move) : (State.pushMove m s).plen = s.plen := rfl
@[simp] theorem State.pushMove_nblk (m : Move) : (State.pushMove m s).nblk = s.nblk := rfl
@[simp] theorem State.pushMove_blkidx (m : Move) : (State.pushMove m s).blkidx = s.blkidx := rfl
@[simp] theorem State.pushMove_block (m : Move) : (State.pushMove m s).block = s.block := rfl
@[simp] theorem State.pushMove_h (m : Move) : (State.pushMove m s).h = s.h := rfl
@[simp] theorem State.pushMove_digest (m : Move) : (State.pushMove m s).digest = s.digest := rfl
@[simp] theorem State.pushMove_aluA (m : Move) : (State.pushMove m s).aluA = s.aluA := rfl
@[simp] theorem State.pushMove_aluB (m : Move) : (State.pushMove m s).aluB = s.aluB := rfl
@[simp] theorem State.pushMove_aluR (m : Move) : (State.pushMove m s).aluR = s.aluR := rfl
@[simp] theorem State.pushMove_w (m : Move) : (State.pushMove m s).w = s.w := rfl
@[simp] theorem State.pushMove_work (m : Move) : (State.pushMove m s).work = s.work := rfl
@[simp] theorem State.pushMove_seq (m : Move) : (State.pushMove m s).seq = s.seq := rfl
@[simp] theorem State.pushMove_latch (m : Move) : (State.pushMove m s).latch = s.latch := rfl
@[simp] theorem State.pushMove_msg (m : Move) : (State.pushMove m s).msg = s.msg := rfl
@[simp] theorem State.pushMove_script (m : Move) : (State.pushMove m s).script = m :: s.script := rfl
@[simp] theorem State.pushMove_readLog (m : Move) : (State.pushMove m s).readLog = s.readLog := rfl
@[simp] theorem State.pushMove_draws (m : Move) : (State.pushMove m s).draws = s.draws := rfl
@[simp] theorem State.pushMove_touched (m : Move) : (State.pushMove m s).touched = s.touched := rfl

@[simp] theorem resetEvent_status : (resetEvent s).status = Status.zero := rfl
@[simp] theorem resetEvent_len : (resetEvent s).len = 0 := rfl
@[simp] theorem resetEvent_plen : (resetEvent s).plen = 0 := rfl
@[simp] theorem resetEvent_nblk : (resetEvent s).nblk = 0 := rfl
@[simp] theorem resetEvent_blkidx : (resetEvent s).blkidx = 0 := rfl
@[simp] theorem resetEvent_block : (resetEvent s).block = Vector.replicate 64 0 := rfl
@[simp] theorem resetEvent_h : (resetEvent s).h = Vector.replicate 8 0 := rfl
@[simp] theorem resetEvent_digest : (resetEvent s).digest = Vector.replicate 32 0 := rfl
@[simp] theorem resetEvent_aluA : (resetEvent s).aluA = 0 := rfl
@[simp] theorem resetEvent_aluB : (resetEvent s).aluB = 0 := rfl
@[simp] theorem resetEvent_aluR : (resetEvent s).aluR = 0 := rfl
@[simp] theorem resetEvent_seq : (resetEvent s).seq = .idle := rfl
@[simp] theorem resetEvent_msg : (resetEvent s).msg = s.msg := rfl
@[simp] theorem resetEvent_script : (resetEvent s).script = s.script := rfl
@[simp] theorem resetEvent_readLog : (resetEvent s).readLog = s.readLog := rfl
@[simp] theorem resetEvent_draws : (resetEvent s).draws = s.draws + 78 := rfl
@[simp] theorem resetEvent_touched : (resetEvent s).touched = false := rfl

end stateUpdates

end Sys2Proof.Machine
end

