-- ==== Sys2Proof/Laws/Ops.lean ====
section
/-! SUPPORT. For each shared operation, everything it can do, said once: running a command, completing one, a phase of the
sequencer, a step of the machine. -/

namespace Sys2Proof.Machine

/-! Completion. -/

/-- With no MSG write seen, completion only makes the core idle. -/
theorem complete_untouched {s : State} (h : s.touched = false) : complete s = toIdle s := by
  simp [complete, h]

/-- A LOADBLK with an MSG write seen completes with a free BLOCK (log entry 9). -/
theorem complete_touched_loadblk {s : State} (h : s.touched = true) (ho : s.latch.opl = opcode .loadblk) :
    complete s = toIdle (drawBlock s) := by
  simp [complete, spoilResults, runsLoadblk, h, ho]

/-- A HASH with an MSG write seen completes with a free BLOCK, H and DIGEST (log entry 9). -/
theorem complete_touched_hash {s : State} (h : s.touched = true) (ho : s.latch.opl = opcode .hash) :
    complete s = toIdle (drawResults s) := by
  simp [complete, spoilResults, runsLoadblk, runsHash, h, ho, opcode]

/-- The words of `drawEight`. -/
@[simp] theorem drawEight_getElem (s : State) (k : Nat) (i : Fin 8) : (drawEight s k)[i] = drawWord s (k + i.val) := by
  simp [drawEight]

/-- Completion after an MSG write: BLOCK, H, DIGEST and the draws may differ from those of `s`, nothing else. -/
theorem complete_eq (s : State) :
    ∃ b h d n, complete s = { toIdle s with block := b, h := h, digest := d, draws := n } := by
  unfold complete spoilResults
  split
  · split
    · exact ⟨_, _, _, _, rfl⟩
    · split
      · exact ⟨_, _, _, _, rfl⟩
      · exact ⟨s.block, s.h, s.digest, s.draws, rfl⟩
  · exact ⟨s.block, s.h, s.digest, s.draws, rfl⟩

@[simp] theorem complete_status (s : State) : (complete s).status = completedStatus s.status := by
  obtain ⟨b, h, d, n, e⟩ := complete_eq s; rw [e]; rfl
@[simp] theorem complete_len (s : State) : (complete s).len = s.len := by
  obtain ⟨b, h, d, n, e⟩ := complete_eq s; rw [e]; rfl
@[simp] theorem complete_plen (s : State) : (complete s).plen = s.plen := by
  obtain ⟨b, h, d, n, e⟩ := complete_eq s; rw [e]; rfl
@[simp] theorem complete_nblk (s : State) : (complete s).nblk = s.nblk := by
  obtain ⟨b, h, d, n, e⟩ := complete_eq s; rw [e]; rfl
@[simp] theorem complete_blkidx (s : State) : (complete s).blkidx = s.blkidx := by
  obtain ⟨b, h, d, n, e⟩ := complete_eq s; rw [e]; rfl
@[simp] theorem complete_aluA (s : State) : (complete s).aluA = s.aluA := by
  obtain ⟨b, h, d, n, e⟩ := complete_eq s; rw [e]; rfl
@[simp] theorem complete_aluB (s : State) : (complete s).aluB = s.aluB := by
  obtain ⟨b, h, d, n, e⟩ := complete_eq s; rw [e]; rfl
@[simp] theorem complete_aluR (s : State) : (complete s).aluR = s.aluR := by
  obtain ⟨b, h, d, n, e⟩ := complete_eq s; rw [e]; rfl
@[simp] theorem complete_w (s : State) : (complete s).w = s.w := by
  obtain ⟨b, h, d, n, e⟩ := complete_eq s; rw [e]; rfl
@[simp] theorem complete_work (s : State) : (complete s).work = s.work := by
  obtain ⟨b, h, d, n, e⟩ := complete_eq s; rw [e]; rfl
@[simp] theorem complete_seq (s : State) : (complete s).seq = .idle := by
  obtain ⟨b, h, d, n, e⟩ := complete_eq s; rw [e]; rfl
@[simp] theorem complete_latch (s : State) : (complete s).latch = s.latch := by
  obtain ⟨b, h, d, n, e⟩ := complete_eq s; rw [e]; rfl
@[simp] theorem complete_msg (s : State) : (complete s).msg = s.msg := by
  obtain ⟨b, h, d, n, e⟩ := complete_eq s; rw [e]; rfl
@[simp] theorem complete_script (s : State) : (complete s).script = s.script := by
  obtain ⟨b, h, d, n, e⟩ := complete_eq s; rw [e]; rfl
@[simp] theorem complete_readLog (s : State) : (complete s).readLog = s.readLog := by
  obtain ⟨b, h, d, n, e⟩ := complete_eq s; rw [e]; rfl
@[simp] theorem complete_touched (s : State) : (complete s).touched = false := by
  obtain ⟨b, h, d, n, e⟩ := complete_eq s; rw [e]; rfl

/-! Running a command. -/

/-- The action a command performs between acceptance and completion. -/
def actionOf (i : Instr) : State → State :=
  match i with
  | .nop => id
  | .hash => hashAction
  | .pad => padAction
  | .init => initAction
  | .loadblk => loadAction
  | .compress => compressAction
  | .serialize => serAction
  | .rotr _ => rotrAction
  | .shr _ => shrAction
  | .add32 => add32Action

/-- Every meaning is the shared run of its action. -/
theorem exec_eq_runCommand (i : Instr) (s : State) : exec i s = runCommand i (actionOf i) s := by
  cases i <;> rfl

theorem runCommand_busy (i : Instr) (f : State → State) {s : State} (h : s.status.busy = true) :
    runCommand i f s = .next (raiseCmdError .busy s) := by
  simp [runCommand, h]

theorem runCommand_rejected (i : Instr) (f : State → State) {s : State} {e : ErrCode} (h : s.status.busy = false)
    (hc : check i s = some e) : runCommand i f s = .next (raiseCmdError e s) := by
  simp [runCommand, h, hc]

theorem runCommand_accepted (i : Instr) (f : State → State) {s : State} (h : s.status.busy = false)
    (hc : check i s = none) : runCommand i f s = .next (complete (f (accept i s))) := by
  simp [runCommand, h, hc]

/-- What running a command can do: reject with BUSY, reject with the first failing check, or accept, act and complete. -/
theorem runCommand_cases {i : Instr} {f : State → State} {s t : State} (h : runCommand i f s = .next t) :
    (s.status.busy = true ∧ t = raiseCmdError .busy s) ∨
    (s.status.busy = false ∧ ∃ e, check i s = some e ∧ t = raiseCmdError e s) ∨
    (s.status.busy = false ∧ check i s = none ∧ t = complete (f (accept i s))) := by
  cases hb : s.status.busy with
  | true => rw [runCommand_busy i f hb] at h; cases h; exact .inl ⟨rfl, rfl⟩
  | false =>
    cases hc : check i s with
    | some e => rw [runCommand_rejected i f hb hc] at h; cases h; exact .inr (.inl ⟨rfl, e, rfl, rfl⟩)
    | none => rw [runCommand_accepted i f hb hc] at h; cases h; exact .inr (.inr ⟨rfl, rfl, rfl⟩)

/-! The sequencer. -/

/-! One lemma a phase: what the core does there (44_hash.md R97). -/

theorem coreStep_idle {s : State} (h : s.seq = .idle) : coreStep s = s := by simp only [coreStep, h]

theorem coreStep_nop {s : State} (h : s.seq = .nop) :
    coreStep s = complete s := by
  simp only [coreStep, h]

theorem coreStep_pad {s : State} (h : s.seq = .pad) :
    coreStep s = enterIfHash .init (padAction s) := by
  simp only [coreStep, h]

theorem coreStep_init {s : State} (h : s.seq = .init) :
    coreStep s = enterIfHash .test (initAction s) := by
  simp only [coreStep, h]

theorem coreStep_test {s : State} (h : s.seq = .test) :
    coreStep s = if s.blkidx < s.nblk then enter .load s else enter .ser s := by
  simp only [coreStep, h]

theorem coreStep_load {s : State} (h : s.seq = .load) :
    coreStep s = enterIfHash .sched (loadAction s) := by
  simp only [coreStep, h]

theorem coreStep_sched {s : State} (h : s.seq = .sched) :
    coreStep s = enter (.expand 16) (schedAction s) := by
  simp only [coreStep, h]

theorem coreStep_expand {s : State} {i : Fin 64} (h : s.seq = .expand i) :
    coreStep s = if i < 63 then enter (.expand (i + 1)) (expandAction i s) else enter .seed (expandAction i s) := by
  simp only [coreStep, h]

theorem coreStep_seed {s : State} (h : s.seq = .seed) :
    coreStep s = enter (.round 0) (seedAction s) := by
  simp only [coreStep, h]

theorem coreStep_round {s : State} {i : Fin 64} (h : s.seq = .round i) :
    coreStep s = if i < 63 then enter (.round (i + 1)) (roundAction i s) else enter .accum (roundAction i s) := by
  simp only [coreStep, h]

theorem coreStep_accum {s : State} (h : s.seq = .accum) :
    coreStep s = enterIfHash .test (accumAction s) := by
  simp only [coreStep, h]

theorem coreStep_ser {s : State} (h : s.seq = .ser) :
    coreStep s = complete (serAction s) := by
  simp only [coreStep, h]

theorem coreStep_alu {s : State} (h : s.seq = .alu) :
    coreStep s = complete (aluAction s) := by
  simp only [coreStep, h]

/-! Several phases. -/

@[simp] theorem coreRun_zero (s : State) : coreRun 0 s = s := rfl

theorem coreRun_succ (n : Nat) (s : State) : coreRun (n + 1) s = coreRun n (coreStep s) := rfl

/-- Phases add up. -/
theorem coreRun_add (m n : Nat) (s : State) : coreRun (m + n) s = coreRun n (coreRun m s) := by
  induction m generalizing s with
  | zero => simp
  | succ m ih => rw [Nat.succ_add, coreRun_succ, ih, coreRun_succ]

/-- An idle core waits. -/
theorem coreRun_idle {s : State} (h : s.seq = .idle) (n : Nat) : coreRun n s = s := by
  induction n with
  | zero => rfl
  | succ n ih => rw [coreRun_succ, coreStep_idle h, ih]

/-- The ALU phase only writes ALU_R. -/
theorem aluAction_eq (s : State) : ∃ r, aluAction s = { s with aluR := r } := by
  unfold aluAction
  split
  · exact ⟨_, rfl⟩
  · split
    · exact ⟨_, rfl⟩
    · split
      · exact ⟨_, rfl⟩
      · exact ⟨s.aluR, rfl⟩

/-- No phase touches what the host owns, nor the latch. -/
theorem coreStep_hostSide (s : State) :
    (coreStep s).len = s.len ∧ (coreStep s).aluA = s.aluA ∧ (coreStep s).aluB = s.aluB ∧ (coreStep s).msg = s.msg ∧
    (coreStep s).script = s.script ∧ (coreStep s).readLog = s.readLog ∧ (coreStep s).latch = s.latch := by
  obtain ⟨r, hr⟩ := aluAction_eq s
  unfold coreStep enterIfHash
  split <;> (try split) <;> simp [hr]

/-- What a phase can do: complete the command, from a state with its latch, its mark of MSG writes and its draws, or go on
with these three as they were. -/
theorem coreStep_cases {s : State} (h : s.seq ≠ .idle) :
    (∃ t, coreStep s = complete t ∧ t.latch = s.latch ∧ t.touched = s.touched ∧ t.draws = s.draws) ∨
    ((coreStep s).seq ≠ .idle ∧ (coreStep s).latch = s.latch ∧ (coreStep s).touched = s.touched ∧
      (coreStep s).draws = s.draws) := by
  have goOn : ∀ p t, p ≠ .idle → coreStep s = enter p t → t.latch = s.latch → t.touched = s.touched →
      t.draws = s.draws → (coreStep s).seq ≠ .idle ∧ (coreStep s).latch = s.latch ∧
        (coreStep s).touched = s.touched ∧ (coreStep s).draws = s.draws := by
    intro p t hp e h1 h2 h3
    rw [e]
    exact ⟨hp, h1, h2, h3⟩
  have goOnIfHash : ∀ p t, p ≠ .idle → coreStep s = enterIfHash p t → t.latch = s.latch → t.touched = s.touched →
      t.draws = s.draws → (∃ t, coreStep s = complete t ∧ t.latch = s.latch ∧ t.touched = s.touched ∧
        t.draws = s.draws) ∨ ((coreStep s).seq ≠ .idle ∧ (coreStep s).latch = s.latch ∧
        (coreStep s).touched = s.touched ∧ (coreStep s).draws = s.draws) := by
    intro p t hp e h1 h2 h3
    unfold enterIfHash at e
    split at e
    · exact .inr (goOn p t hp e h1 h2 h3)
    · exact .inl ⟨t, e, h1, h2, h3⟩
  obtain ⟨r, hr⟩ := aluAction_eq s
  cases hs : s.seq with
  | idle => exact absurd hs h
  | nop => exact .inl ⟨s, coreStep_nop hs, rfl, rfl, rfl⟩
  | pad => exact goOnIfHash .init (padAction s) nofun (coreStep_pad hs) rfl rfl rfl
  | init => exact goOnIfHash .test (initAction s) nofun (coreStep_init hs) rfl rfl rfl
  | test =>
    have e := coreStep_test hs
    split at e
    · exact .inr (goOn .load s nofun e rfl rfl rfl)
    · exact .inr (goOn .ser s nofun e rfl rfl rfl)
  | load => exact goOnIfHash .sched (loadAction s) nofun (coreStep_load hs) rfl rfl rfl
  | sched => exact .inr (goOn (.expand 16) _ nofun (coreStep_sched hs) rfl rfl rfl)
  | expand i =>
    have e := coreStep_expand hs
    split at e
    · exact .inr (goOn (.expand (i + 1)) _ nofun e rfl rfl rfl)
    · exact .inr (goOn .seed _ nofun e rfl rfl rfl)
  | seed => exact .inr (goOn (.round 0) _ nofun (coreStep_seed hs) rfl rfl rfl)
  | round i =>
    have e := coreStep_round hs
    split at e
    · exact .inr (goOn (.round (i + 1)) _ nofun e rfl rfl rfl)
    · exact .inr (goOn .accum _ nofun e rfl rfl rfl)
  | accum => exact goOnIfHash .test (accumAction s) nofun (coreStep_accum hs) rfl rfl rfl
  | ser => exact .inl ⟨serAction s, coreStep_ser hs, rfl, rfl, rfl⟩
  | alu => exact .inl ⟨aluAction s, coreStep_alu hs, by rw [hr], by rw [hr], by rw [hr]⟩

/-! A step of the machine. -/

/-- What a step can do: the core moves alone, or the first move of the script is performed. -/
theorem step_cases (s : State) :
    (s.script = [] ∧ step s = .next (coreStep s)) ∨
    ∃ m rest, s.script = m :: rest ∧ step s = perform m { s with script := rest } := by
  unfold step advance
  cases h : s.script with
  | nil => exact .inl ⟨rfl, rfl⟩
  | cons m rest => exact .inr ⟨m, rest, rfl, rfl⟩

/-- A step with the move `m` first performs it. -/
theorem step_move (m : Move) (s : State) (rest : List Move) :
    step { s with script := m :: rest } = perform m { s with script := rest } := rfl

/-- A run whose first step answers a next state goes on from there. -/
theorem run_next (M : Host.Core) (n : Nat) (s u : M.State) (h : M.step s = .next u) : M.run (n + 1) s = M.run n u := by
  simp only [Host.Core.run, h]

end Sys2Proof.Machine
end

