-- ==== Sys2Proof/Laws/PerInstr.lean ====
section
/-! SUPPORT. Statements about every command as syntax, one lemma a constructor. -/

/-- The word of a command passes the three checks of a command word (30_encoding.md R54, R58), and its fields are the
command's. -/
def Sys2Proof.Laws.LegalWord.Statement (i : Sys2Proof.Instr) : Prop :=
  Sys2Proof.CommandWord.wellFormed (Sys2Proof.encode i) = true ∧
    Sys2Proof.opField (Sys2Proof.encode i) = Sys2Proof.opcode i ∧
    Sys2Proof.shiftField (Sys2Proof.encode i) = Sys2Proof.shiftAmount i

theorem Sys2Proof.Laws.LegalWord.nop : Sys2Proof.Laws.LegalWord.Statement .nop := by
  unfold Sys2Proof.Laws.LegalWord.Statement; decide
theorem Sys2Proof.Laws.LegalWord.hash : Sys2Proof.Laws.LegalWord.Statement .hash := by
  unfold Sys2Proof.Laws.LegalWord.Statement; decide
theorem Sys2Proof.Laws.LegalWord.pad : Sys2Proof.Laws.LegalWord.Statement .pad := by
  unfold Sys2Proof.Laws.LegalWord.Statement; decide
theorem Sys2Proof.Laws.LegalWord.init : Sys2Proof.Laws.LegalWord.Statement .init := by
  unfold Sys2Proof.Laws.LegalWord.Statement; decide
theorem Sys2Proof.Laws.LegalWord.loadblk : Sys2Proof.Laws.LegalWord.Statement .loadblk := by
  unfold Sys2Proof.Laws.LegalWord.Statement; decide
theorem Sys2Proof.Laws.LegalWord.compress : Sys2Proof.Laws.LegalWord.Statement .compress := by
  unfold Sys2Proof.Laws.LegalWord.Statement; decide
theorem Sys2Proof.Laws.LegalWord.serialize : Sys2Proof.Laws.LegalWord.Statement .serialize := by
  unfold Sys2Proof.Laws.LegalWord.Statement; decide
theorem Sys2Proof.Laws.LegalWord.rotr (n : BitVec 5) : Sys2Proof.Laws.LegalWord.Statement (.rotr n) := by
  unfold Sys2Proof.Laws.LegalWord.Statement; revert n; decide
theorem Sys2Proof.Laws.LegalWord.shr (n : BitVec 5) : Sys2Proof.Laws.LegalWord.Statement (.shr n) := by
  unfold Sys2Proof.Laws.LegalWord.Statement; revert n; decide
theorem Sys2Proof.Laws.LegalWord.add32 : Sys2Proof.Laws.LegalWord.Statement .add32 := by
  unfold Sys2Proof.Laws.LegalWord.Statement; decide
end

