-- ==== Sys2Proof/Tests/Slice0.lean ====
section
/-! SUPPORT. Tests, each expected value from the section or rule its comment names, and for each statement with hypotheses
a state and operands that meet them (`witness_…`). -/

namespace Sys2Proof.Machine.Tests

open Sys2Proof Sys2Proof.Machine

/-! Small states. -/

/-- The state after RST of a core with 1024 bytes of MSG (95_test_vectors.md section 6). -/
def blank : State := { State.reset with msg := ⟨1024, []⟩ }

/-- MSG with "abc" at its start. -/
def abcMem : MsgMemory := ⟨1024, [(0, 0x61), (1, 0x62), (2, 0x63)]⟩

/-- "abc" written and LEN = 3. -/
def abc : State := { blank with msg := abcMem, len := 3 }

/-- The words of the one block of "abc". -/
def abcBlock : Vector Byte 64 :=
  blockOfWords fun k => if k = 0 then 0x61626380 else if k = 15 then 0x00000018 else 0

/-- After PAD of "abc". -/
def padded : State :=
  { abc with plen := 3, nblk := 1, status := ⟨false, false, true, false, false, false, 0⟩ }

/-- After PAD, INIT and LOADBLK of "abc". -/
def loaded : State :=
  { padded with blkidx := 1, block := abcBlock, h := iv, status := ⟨false, false, true, true, true, false, 0⟩ }

/-- After INIT. -/
def started : State := { blank with h := iv, status := ⟨false, false, false, false, true, false, 0⟩ }

/-- A COMPRESS of the block of "abc" just accepted. -/
def compressing : State := accept .compress loaded

/-- A HASH of "abc" just accepted. -/
def hashing : State := accept .hash abc

/-- The HASH of "abc" before its block, and the same HASH after it. -/
def testing : State := coreRun 2 hashing

def tested : State := { testing with blkidx := 1, block := abcBlock }

/-- A LOADBLK of "abc" just accepted. -/
def loading : State := accept .loadblk padded

/-- A core with the greatest message memory a length can fill. -/
def wide : State := { State.reset with msg := ⟨2 ^ 61 - 1, []⟩, len := 0x1FFFFFFFFFFFFFFF }

/-- What a field of the next state holds, if there is a next state. -/
def got {α : Type} (f : State → α) (o : Host.Outcome State Fault Refusal) : Option α :=
  match o with
  | .next t => some (f t)
  | .fault _ => none
  | .refused _ => none

/-- STATUS after an outcome. -/
def statusOf (o : Host.Outcome State Fault Refusal) : Option Word := got (fun t => statusWord t.status) o

/-! Ill-formed words, one for each check (30_encoding.md R58, 95 section 6), and the words of the spec. -/

theorem test_reserved_bit_refused : CommandWord.reservedClear 0x00002000 = false ∧
    CommandWord.wellFormed 0x00002000 = false ∧ decode 0x00002000 = .illegal .reservedBits := by decide

theorem test_opcode_refused : CommandWord.opcodeAssigned 0x00000007 = false ∧
    CommandWord.wellFormed 0x00000007 = false ∧ decode 0x00000007 = .illegal .unknownOpcode := by decide

theorem test_shift_refused : CommandWord.shiftAllowed 0x00000101 = false ∧
    CommandWord.wellFormed 0x00000101 = false ∧ decode 0x00000101 = .illegal .nonzeroShift := by decide

/-- Bits 31:13 RSV, 12:8 N, 7:0 OP (R54): one word of each family written out bit by bit. -/
theorem test_decode_plain_words :
    decode 0b00000000000000000000000000000000 = .command .nop ∧
    decode 0b00000000000000000000000000000001 = .command .hash ∧
    decode 0b00000000000000000000000000000010 = .command .pad ∧
    decode 0b00000000000000000000000000000011 = .command .init ∧
    decode 0b00000000000000000000000000000100 = .command .loadblk ∧
    decode 0b00000000000000000000000000000101 = .command .compress ∧
    decode 0b00000000000000000000000000000110 = .command .serialize ∧
    decode 0b00000000000000000000000000010010 = .command .add32 := by decide

theorem test_decode_shift_words :
    decode 0b00000000000000000000000100010000 = .command (.rotr 1) ∧
    decode 0b00000000000000000001111100010000 = .command (.rotr 31) ∧
    decode 0b00000000000000000001000000010001 = .command (.shr 16) ∧
    decode 0b00000000000000000001111100010001 = .command (.shr 31) := by decide

/-- R59: the command words. -/
theorem test_encode_words : encode .hash = 0x00000001 ∧ encode (.rotr 7) = 0x00000710 ∧
    encode (.shr 31) = 0x00001F11 ∧ encode .add32 = 0x00000012 := by decide

theorem test_decode_table_word : decodeTableWord 32 0x00000310 = some (.rotr 3) ∧
    decodeTableWord 32 0x80000012 = none := by decide

/-! Functions (95_test_vectors.md sections 2 to 5). -/

/-- 3.1, 3.2, 3.3. -/
theorem test_primitive_vectors :
    rotr 0x00000001 1 = 0x80000000 ∧ rotr 0x6a09e667 25 = 0x04f333b5 ∧ rotr 0x12345678 0 = 0x12345678 ∧
    shr 0x6a09e667 10 = 0x001a8279 ∧ shr 0x80000000 31 = 0x00000001 ∧
    add32 0xffffffff 0xffffffff = 0xfffffffe ∧ add32 0x6a09e667 0xbb67ae85 = 0x257194ec := by decide

/-- 3.4, the row of IV[4], and the row of e = IV[4]. -/
theorem test_word_function_vectors :
    schedS0 0x510e527f = 0x601c02a8 ∧ schedS1 0x510e527f = 0xe3640132 ∧
    roundS0 0x510e527f = 0x7ef0e1a9 ∧ roundS1 0x510e527f = 0x3587272b ∧
    ch 0x510e527f 0x9b05688c 0x1f83d9ab = 0x1f85c98c ∧ maj 0x510e527f 0x9b05688c 0x1f83d9ab = 0x1b0758af := by decide

/-- 2.1. -/
theorem test_padding_counts :
    zeroCount 0 = 55 ∧ zeroCount 55 = 0 ∧ zeroCount 56 = 63 ∧ zeroCount 64 = 55 ∧ zeroCount 1000 = 15 ∧
    blockCount 55 = 1 ∧ blockCount 56 = 2 ∧ blockCount 120 = 3 ∧ blockCount (2 ^ 61 - 1) = 2 ^ 55 + 1 := by decide

/-- 2.2, the length field of 56 bytes in its second block, and the 0x80 byte in its first. -/
theorem test_pad_bytes : padByte abcMem 56 2 56 = 0x80 ∧ padByte abcMem 56 2 119 = 0x00 ∧
    padByte abcMem 56 2 126 = 0x01 ∧ padByte abcMem 56 2 127 = 0xc0 := by decide

/-- 4.1, words of the schedule of "abc". -/
theorem test_schedule_abc : let w := schedule abcBlock (Vector.replicate 64 0)
    w[0] = 0x61626380 ∧ w[16] = 0x61626380 ∧ w[17] = 0x000f0000 ∧ w[63] = 0x12b1edeb := by decide +kernel

/-- 4.3, the row of ones, where nearly every addition wraps. -/
theorem test_compress_ones : compress (Vector.replicate 8 0xffffffff) (Vector.replicate 64 0xff) =
    #v[0x0598127a, 0xaf11706e, 0x77401fff, 0xd730c549, 0x0b84c867, 0xa98c6ca3, 0xd7f3c0f9, 0x06a78b79] := by
  decide +kernel

/-- 5, the third row. -/
theorem test_serialize_bytes :
    serialize #v[0x01020304, 0x05060708, 0x090a0b0c, 0x0d0e0f10, 0x11121314, 0x15161718, 0x191a1b1c, 0x1d1e1f20] =
      (List.range 32).map (fun k => BitVec.ofNat 8 (k + 1)) := by decide

/-! Commands (95_test_vectors.md section 6), at most two theorems each. -/

/-- 44_hash.md R100, the example: from STATUS = 0x00000202. -/
theorem test_nop_clears_error :
    statusOf (exec .nop { blank with status := ⟨false, true, false, false, false, false, 0x02⟩ }) = some 0x00000000 := by
  decide

theorem test_pad_counts_blocks :
    got (fun t => (statusWord t.status, t.plen, t.nblk, t.blkidx)) (exec .pad { blank with len := 56 }) =
      some (0x00000004, 56, 2, 0) := by decide

/-- MSG_CAP itself is accepted, one more byte is not. -/
theorem test_pad_checks_capacity :
    got (fun t => t.nblk) (exec .pad { blank with len := 1024 }) = some 17 ∧
    statusOf (exec .pad { blank with len := 1025 }) = some 0x00000402 ∧
    statusOf (exec .pad { blank with len := 0x2000000000000000 }) = some 0x00000302 := by decide

theorem test_init_starts_state :
    got (fun t => (statusWord t.status, readValue 0x10 t, readValue 0x17 t)) (exec .init blank) =
      some (0x00000010, 0x6a09e667, 0x5be0cd19) := by decide

theorem test_loadblk_abc :
    got (fun t => (statusWord t.status, readValue 0x20 t, readValue 0x2F t, t.blkidx)) (exec .loadblk padded) =
      some (0x0000000c, 0x61626380, 0x00000018, 1) := by decide +kernel

theorem test_loadblk_rejections :
    statusOf (exec .loadblk blank) = some 0x00000502 ∧
    statusOf (exec .loadblk { padded with blkidx := 1, status := ⟨false, false, true, true, false, false, 0⟩ }) =
      some 0x0000060e := by decide

theorem test_compress_abc :
    got (fun t => (statusWord t.status, readValue 0x10 t, readValue 0x17 t)) (exec .compress loaded) =
      some (0x00000014, 0xba7816bf, 0xf20015ad) := by decide +kernel

/-- NO_STATE is checked before NO_BLOCK. -/
theorem test_compress_rejections :
    statusOf (exec .compress { padded with status := ⟨false, false, true, true, false, false, 0⟩ }) = some 0x0000080e ∧
    statusOf (exec .compress started) = some 0x00000712 := by decide

theorem test_serialize_iv :
    got (fun t => (statusWord t.status, readValue 0x18 t, readValue 0x1F t)) (exec .serialize started) =
      some (0x00000030, 0x6a09e667, 0x5be0cd19) := by decide +kernel

theorem test_serialize_rejection : statusOf (exec .serialize blank) = some 0x00000802 := by decide

theorem test_rotr_wraps :
    got (fun t => (statusWord t.status, readValue 0x0A t)) (exec (.rotr 1) { blank with aluA := 0x00000001 }) =
      some (0x00000000, 0x80000000) := by decide

theorem test_rotr_by_zero :
    got (fun t => readValue 0x0A t) (exec (.rotr 0) { blank with aluA := 0x12345678 }) = some 0x12345678 := by decide

theorem test_shr_fills_zero :
    got (fun t => readValue 0x0A t) (exec (.shr 31) { blank with aluA := 0x80000000 }) = some 0x00000001 := by decide

theorem test_add32_wraps :
    got (fun t => (statusWord t.status, readValue 0x0A t))
      (exec .add32 { blank with aluA := 0xffffffff, aluB := 0x00000002 }) = some (0x00000000, 0x00000001) := by decide

theorem test_hash_abc :
    got (fun t => (statusWord t.status, t.nblk, t.blkidx, readValue 0x18 t, readValue 0x1B t, readValue 0x1F t))
      (exec .hash abc) = some (0x00000034, 1, 1, 0xba7816bf, 0x5dae2223, 0xf20015ad) := by decide +kernel

/-- The empty message, run as the first command after reset (44_hash.md R101, 95 section 1.1). -/
theorem test_hash_empty_from_reset :
    got (fun t => (statusWord t.status, readValue 0x18 t, readValue 0x1F t)) (step (State.reset.withFetchWord 32 0x1)) =
      some (0x00000034, 0xe3b0c442, 0x7852b855) := by decide +kernel

/-! Moves of the host and the core, one step each. -/

/-- Bits 31 and 13, N on HASH, opcode 0x07: BAD_CMD. -/
theorem test_bad_words :
    statusOf (step { blank with script := [.write 0x00 0x80000012] }) = some 0x00000102 ∧
    statusOf (step { blank with script := [.write 0x00 0x00002000] }) = some 0x00000102 ∧
    statusOf (step { blank with script := [.write 0x00 0x00000101] }) = some 0x00000102 ∧
    statusOf (step { blank with script := [.write 0x00 0x00000007] }) = some 0x00000102 := by decide

/-- A submission is accepted with BUSY = 1; a second one, even of an illegal word, reports BUSY (60_exceptions.md R108). -/
theorem test_submission_while_busy :
    got (fun t => (t.status.busy, t.seq)) (step { blank with script := [.write 0x00 0x00000003] }) =
      some (true, .init) ∧
    got (fun t => (t.status.err, t.status.errcode, t.seq)) (step { hashing with script := [.write 0x00 0xFFFFFFFF] }) =
      some (true, 0x02, .pad) := by decide

/-- LEN_HI and LEN_LO (10_state.md R23); a write to a read-only register changes nothing (R19). -/
theorem test_host_writes :
    got (fun t => t.len) (step { abc with script := [.write 0x03 0x00000001] }) = some 0x0000000100000003 ∧
    got (fun t => (t.h, t.status)) (step { started with script := [.write 0x10 5] }) = some (iv, started.status) := by
  decide

/-- A read is logged; a byte write lands in MSG; RST clears H but not MSG. -/
theorem test_host_reads_and_writes :
    got (fun t => t.readLog) (step { started with script := [.read 0x11] }) = some [(0x11, 0xbb67ae85)] ∧
    got (fun t => t.msg.cells) (step { abc with script := [.msg 1 0x7a] }) =
      some [(0, 0x61), (1, 0x7a), (2, 0x63)] ∧
    got (fun t => (t.h[0], t.msg)) (step { loaded with script := [.rst] }) = some (0, abcMem) := by decide

/-- An address at MSG_CAP does not exist. -/
theorem test_msg_write_outside :
    got (fun t => t.msg.cells.length) (step { blank with script := [.msg 1023 0xff] }) = some 1 ∧
    got (fun t => t.msg.cells.length) (step { blank with script := [.msg 1024 0xff] }) = none := by decide

/-- Round 0 of "abc" from the seed (95 section 4.1). -/
theorem test_round_phase :
    got (fun t => (t.work.a, t.work.e, t.work.h, t.seq))
      (step { compressing with seq := .round 0, work := seedWork iv, w := (Vector.replicate 64 0).set 0 0x61626380 }) =
      some (0x5d6aebcd, 0xfa2a4622, 0x1f83d9ab, .round 1) := by decide +kernel

/-! Witnesses: for each statement with hypotheses, values that meet them, clause by clause, at the edge of each range. -/

theorem witness_DecodeFollowsFields :
    (blank.status.busy = false ∧ decode 0x00000F13 = .illegal .unknownOpcode) ∧
    reservedField 0x00002000 ≠ 0 ∧
    (reservedField 0x00001F10 = 0 ∧ opField 0x00001F10 = 0x10) ∧
    (reservedField 0x00000011 = 0 ∧ opField 0x00000011 = 0x11) ∧
    (reservedField 0x00000106 = 0 ∧ opField 0x00000106 = 0x06 ∧ shiftField 0x00000106 ≠ 0) ∧
    (reservedField 0x00000012 = 0 ∧ opField 0x00000012 = 0x12 ∧ shiftField 0x00000012 = 0) ∧
    (reservedField 0x00000F13 = 0 ∧
      opField 0x00000F13 ∉ [(0x00 : BitVec 8), 0x01, 0x02, 0x03, 0x04, 0x05, 0x06, 0x10, 0x11, 0x12]) ∧
    (reservedField 0x00000007 = 0 ∧
      opField 0x00000007 ∉ [(0x00 : BitVec 8), 0x01, 0x02, 0x03, 0x04, 0x05, 0x06, 0x10, 0x11, 0x12]) := by decide

theorem witness_OpcodeMapDecides :
    ∃ r ∈ opcodeMap, ∃ q ∈ opcodeMap, r.selects 0x00001F11 = true ∧ q.selects 0x00001F11 = true := by decide

theorem witness_IllegalWordsAreTheReservedOnes :
    blank.status.busy = false ∧ decode 0x00001F00 = .illegal .nonzeroShift ∧ decode 0x0000000F = .illegal .unknownOpcode ∧
    decode 0x000000FF = .illegal .unknownOpcode := by decide

theorem witness_RotrMovesEachBit : 0 < 32 ∧ 31 < 32 := by decide

theorem witness_ChooseAndMajorityBits : 0 < 32 ∧ 31 < 32 := by decide

theorem witness_WordFunctionsBitByBit : 0 < 32 ∧ 31 < 32 := by decide

theorem witness_ZeroCountIsLeast : (55 + 1 + 0 + 8) % 64 = 0 ∧ (56 + 1 + 127 + 8) % 64 = 0 := by decide

theorem witness_PaddedLengthIsWholeBlocks : 2 ^ 61 - 1 ≤ 2 ^ 61 - 1 := by decide

theorem witness_PadByteIsByteOfPaddedMessage : 63 < 64 * blockCount 55 ∧ 127 < 64 * blockCount 56 := by decide

/-- The first and the last zero byte of the padding of the empty message. -/
theorem witness_PaddedMessageShape : ([] : List Byte).length < 1 ∧ 1 < 64 * blockCount 0 - 8 ∧
    55 < 64 * blockCount ([] : List Byte).length - 8 := by decide

/-- The last address of MSG, and a step that changes MSG. -/
theorem witness_OnlyHostWritesMsg : (1023 : DWord).toNat < abc.msg.cap ∧
    got (fun t => decide (t.msg ≠ abcMem)) (step { abc with script := [.msg 1023 0x00] }) = some true := by decide

theorem witness_IdleReadsFollowTheMap : blank.status.busy = false ∧
    ∀ r ∈ [(0x0B : BitVec 8), 0x0F, 0x30, 0xFF], (0x0B ≤ r.toNat ∧ r.toNat ≤ 0x0F) ∨ 0x30 ≤ r.toNat := by decide

theorem witness_BusyReadsAreExactOrFree : hashing.status.busy = true ∧
    (∀ r ∈ [(0x00 : BitVec 8), 0x0B, 0x0F, 0x30, 0xFF], r = 0 ∨ (0x0B ≤ r.toNat ∧ r.toNat ≤ 0x0F) ∨ 0x30 ≤ r.toNat) ∧
    ∀ r ∈ [(0x04 : BitVec 8), 0x07, 0x0A, 0x10, 0x2F],
      (0x04 ≤ r.toNat ∧ r.toNat ≤ 0x07) ∨ r.toNat = 0x0A ∨ (0x10 ≤ r.toNat ∧ r.toNat ≤ 0x2F) := by decide

theorem witness_HostWritesStoreOrVanish :
    (∀ r ∈ [(0x01 : BitVec 8), 0x04, 0x07, 0x0A, 0xFF], r ∉ [(0x00 : BitVec 8), 0x02, 0x03, 0x08, 0x09]) ∧
    ∀ r ∈ [(0x00 : BitVec 8), 0x0B, 0x0F, 0x30, 0xFF],
      r = 0 ∨ (0x0B ≤ r.toNat ∧ r.toNat ≤ 0x0F) ∨ 0x30 ≤ r.toNat := by decide

theorem witness_AcceptanceLatchesOperands :
    loaded.status.busy = false ∧ decode 0x00000005 = .command .compress ∧ check .compress loaded = none := by decide

/-- One submission for each clause: BUSY, BAD_CMD, LEN = 2^61 and 2^61 - 1, LEN = MSG_CAP + 1 and MSG_CAP, the stepwise
commands' four checks, and a COMPRESS that passes them. -/
theorem witness_SubmissionReportsTheFirstFailure :
    hashing.status.busy = true ∧
    (blank.status.busy = false ∧ decode 0x00000007 = .illegal .unknownOpcode) ∧
    (decode 0x00000002 = .command .pad ∧ decode 0x00000001 = .command .hash ∧ decode 0x00000004 = .command .loadblk ∧
      decode 0x00000005 = .command .compress ∧ decode 0x00000006 = .command .serialize) ∧
    2 ^ 61 - 1 < ({ wide with len := 0x2000000000000000 } : State).len.toNat ∧
    (({ blank with len := 0x1FFFFFFFFFFFFFFF } : State).len.toNat ≤ 2 ^ 61 - 1 ∧
      blank.msg.cap < ({ blank with len := 0x1FFFFFFFFFFFFFFF } : State).len.toNat) ∧
    blank.msg.cap < ({ blank with len := 1025 } : State).len.toNat ∧
    blank.status.padded = false ∧
    (loaded.status.busy = false ∧ loaded.status.padded = true ∧ loaded.blkidx = loaded.nblk) ∧
    (started.status.busy = false ∧ started.status.hv = true ∧ started.status.blkv = false) ∧
    blank.status.hv = false ∧
    (({ blank with len := 1024 } : State).len.toNat ≤ 2 ^ 61 - 1 ∧
      ({ blank with len := 1024 } : State).len.toNat ≤ blank.msg.cap) ∧
    (loaded.status.hv = true ∧ loaded.status.blkv = true) := by decide

theorem witness_IllegalWordReportsBadCmd :
    blank.status.busy = false ∧ decode 0xFFFFFFFF = .illegal .reservedBits := by decide

theorem witness_BusySubmissionIsDropped : hashing.status.busy = true := by decide

theorem witness_OnlyOutsideWriteStops :
    ({ blank with script := [.msg 1024 0] } : State).script = [.msg 1024 0] ∧ blank.msg.cap ≤ (1024 : DWord).toNat := by
  decide

theorem witness_StepRunsTheCommand : decode (tableWord 32 0x00001F10) = .command (.rotr 31) := by decide

theorem witness_PollWaitsForCompletion : compressing.status.busy = true ∧ loaded.status.busy = false := by decide

/-- A state in each phase, the loop indices at their bounds, both branches of P_TEST, and an empty script. -/
theorem witness_PhasesFollowTheTable :
    (loaded.seq = .idle ∧ loaded.script = []) ∧
    (accept .nop blank).seq = .nop ∧ (accept .init blank).seq = .init ∧ (accept .serialize started).seq = .ser ∧
    (accept .loadblk padded).seq = .load ∧ hashing.seq = .pad ∧ compressing.seq = .sched ∧
    (testing.seq = .test ∧ testing.blkidx < testing.nblk) ∧
    (tested.seq = .test ∧ ¬ tested.blkidx < tested.nblk) ∧
    ({ compressing with seq := .expand 63 } : State).seq = .expand 63 ∧
    ({ compressing with seq := .seed } : State).seq = .seed ∧
    ({ compressing with seq := .round 63 } : State).seq = .round 63 ∧
    ({ compressing with seq := .accum } : State).seq = .accum ∧
    ((accept (.rotr 31) blank).seq = .alu ∧ (accept (.rotr 31) blank).latch.opl = 0x10) ∧
    ((accept (.shr 0) blank).seq = .alu ∧ (accept (.shr 0) blank).latch.opl = 0x11) ∧
    ((accept .add32 blank).seq = .alu ∧ (accept .add32 blank).latch.opl = 0x12) := by decide

theorem witness_EveryCommandCompletes : hashing.seq ≠ .idle ∧ compressing.seq ≠ .idle := by decide

theorem witness_LatchShieldsTheCommand :
    got (fun t => t.aluR) (exec (.rotr 1) { abc with aluA := 2 }) = some 1 ∧ Instr.rotr 1 ≠ .pad ∧ Instr.rotr 1 ≠ .hash := by
  decide

/-- A COMPRESS and a HASH that pass their checks, and the last phase before completion. -/
theorem witness_SequencerReachesTheMeaning :
    (loaded.status.busy = false ∧ check .compress loaded = none ∧ 114 < phaseCount .compress loaded) ∧
    (abc.status.busy = false ∧ check .hash abc = none ∧ 120 < phaseCount .hash abc) ∧
    (wide.status.busy = false ∧ check .hash wide = none) := by decide

/-- A busy core in the middle of a command that reads MSG, and of one that does not. -/
theorem witness_hashing_coherent : Coherent hashing ∧ hashing.status.busy = true ∧ hashing.latch.opl = opcode .hash :=
  ⟨{ memory := by decide
     busySeq := by decide
     errCode := by decide
     knownCode := by decide
     padding := by intro h; exact absurd h (by decide)
     loaded := by intro h; exact absurd h (by decide)
     duty := by decide
     phase := ⟨.inr (by decide), by decide, by decide⟩ }, by decide, by decide⟩

/-- A LOADBLK, which is complete after its one phase. -/
theorem witness_loading_coherent : Coherent loading ∧ loading.status.busy = true ∧
    loading.latch.opl = opcode .loadblk ∧ (coreRun 1 loading).seq = .idle :=
  ⟨{ memory := by decide
     busySeq := by decide
     errCode := by decide
     knownCode := by decide
     padding := fun _ => ⟨by decide, by decide, by decide, by decide⟩
     loaded := by decide
     duty := by decide
     phase := ⟨.inl (by decide), by decide, by decide⟩ }, by decide, by decide, by decide⟩

/-- A HASH one phase before its completion. -/
theorem witness_hash_ends : Coherent { tested with seq := .ser } ∧ tested.status.busy = true ∧
    tested.latch.opl = opcode .hash ∧ (coreRun 1 { tested with seq := .ser }).seq = .idle :=
  ⟨{ memory := by decide
     busySeq := by decide
     errCode := by decide
     knownCode := by decide
     padding := fun _ => ⟨by decide, by decide, by decide, by decide⟩
     loaded := by decide
     duty := by decide
     phase := ⟨.inr (by decide), by decide⟩ }, by decide, by decide, by decide⟩

theorem witness_MsgWriteWhileBusyIsConfined : Coherent compressing ∧ compressing.status.busy = true ∧
    compressing.latch.opl ≠ opcode .loadblk ∧ compressing.latch.opl ≠ opcode .hash :=
  ⟨{ memory := by decide
     busySeq := by decide
     errCode := by decide
     knownCode := by decide
     padding := fun _ => ⟨by decide, by decide, by decide, by decide⟩
     loaded := by decide
     duty := by decide
     phase := ⟨.inl (by decide), by decide, by decide⟩ }, by decide, by decide, by decide⟩

theorem witness_NopOnlyClearsTheError : blank.status.busy = false ∧ hashing.status.busy = true := by decide

/-- LEN = 2^61, LEN = MSG_CAP + 1, then LEN = 0, LEN = MSG_CAP, and the greatest length a memory of that size can hold. -/
theorem witness_PadStartsAPadding :
    2 ^ 61 - 1 < ({ blank with len := 0x2000000000000000 } : State).len.toNat ∧
    (({ blank with len := 1025 } : State).len.toNat ≤ 2 ^ 61 - 1 ∧
      blank.msg.cap < ({ blank with len := 1025 } : State).len.toNat) ∧
    (blank.status.busy = false ∧ blank.len.toNat ≤ 2 ^ 61 - 1 ∧ blank.len.toNat ≤ blank.msg.cap) ∧
    (({ blank with len := 1024 } : State).len.toNat ≤ 2 ^ 61 - 1 ∧
      ({ blank with len := 1024 } : State).len.toNat ≤ blank.msg.cap) ∧
    (wide.status.busy = false ∧ wide.len.toNat = 2 ^ 61 - 1 ∧ wide.len.toNat ≤ wide.msg.cap) := by decide

theorem witness_LoadblkLoadsTheNextBlock :
    (blank.status.busy = false ∧ blank.status.padded = false) ∧
    (loaded.status.busy = false ∧ loaded.status.padded = true ∧ loaded.blkidx = loaded.nblk) ∧
    padded.status.busy = false ∧ padded.status.padded = true ∧ padded.blkidx ≠ padded.nblk := by decide

/-- A memory that agrees below PLEN = 3 and differs at 3. -/
theorem witness_LoadblkReadsOnlyTheMessage :
    (∀ k, 64 * padded.blkidx.toNat ≤ k → k < 64 * padded.blkidx.toNat + 64 → k < padded.plen.toNat →
      (padded.msg.writeByte 3 0xff).readByte k = padded.msg.readByte k) ∧
    padded.msg.writeByte 3 0xff ≠ padded.msg :=
  ⟨fun k _ _ h => (by decide : ∀ k, k < padded.plen.toNat →
    (padded.msg.writeByte 3 0xff).readByte k = padded.msg.readByte k) k h, by decide⟩

theorem witness_InitLoadsTheInitialValue : loaded.status.busy = false := by decide

theorem witness_CompressAppliesTheFunction :
    (blank.status.busy = false ∧ blank.status.hv = false) ∧
    (started.status.busy = false ∧ started.status.hv = true ∧ started.status.blkv = false) ∧
    (loaded.status.busy = false ∧ loaded.status.hv = true ∧ loaded.status.blkv = true) := by decide

theorem witness_SecondCompressIsRejected :
    loaded.status.busy = false ∧ loaded.status.hv = true ∧ loaded.status.blkv = true := by decide

theorem witness_SerializeWritesTheDigest :
    (blank.status.busy = false ∧ blank.status.hv = false) ∧ started.status.busy = false ∧ started.status.hv = true := by decide

theorem witness_RotrRotatesAluA : abc.status.busy = false := by decide

theorem witness_ShrShiftsAluA : abc.status.busy = false := by decide

theorem witness_AddSumsTheOperands : abc.status.busy = false := by decide

theorem witness_HashComputesSha256 :
    2 ^ 61 - 1 < ({ blank with len := 0xFFFFFFFFFFFFFFFF } : State).len.toNat ∧
    (({ blank with len := 1025 } : State).len.toNat ≤ 2 ^ 61 - 1 ∧
      blank.msg.cap < ({ blank with len := 1025 } : State).len.toNat) ∧
    (abc.status.busy = false ∧ abc.len.toNat ≤ 2 ^ 61 - 1 ∧ abc.len.toNat ≤ abc.msg.cap) ∧
    (wide.status.busy = false ∧ wide.len.toNat = 2 ^ 61 - 1 ∧ wide.len.toNat ≤ wide.msg.cap) := by decide

/-- Two states that agree on LEN and the message alone. -/
theorem witness_HashForgetsTheEarlierState :
    abc.status.busy = false ∧ loaded.status.busy = false ∧ abc.len = loaded.len ∧ abc.len.toNat ≤ 2 ^ 61 - 1 ∧
    abc.len.toNat ≤ abc.msg.cap ∧ abc.len.toNat ≤ loaded.msg.cap ∧
    ∀ k, k < abc.len.toNat → abc.msg.readByte k = loaded.msg.readByte k := by decide

theorem witness_StepwiseRunEqualsHash :
    (abc.status.busy = false ∧ abc.len.toNat ≤ 2 ^ 61 - 1 ∧ abc.len.toNat ≤ abc.msg.cap) ∧
    (blank.status.busy = false ∧ blank.len.toNat ≤ 2 ^ 61 - 1 ∧ blank.len.toNat ≤ blank.msg.cap) := by decide

/-- `exec` answers a next state that changes H, and one that changes PLEN. -/
theorem witness_CommandsWriteOnlyTheirElements :
    got (fun t => decide (t.h ≠ blank.h)) (exec .init blank) = some true ∧
    got (fun t => decide (t.plen ≠ abc.plen)) (exec .pad abc) = some true ∧
    got (fun t => decide (t.aluR ≠ abc.aluR)) (exec (.rotr 31) { abc with aluA := 1 }) = some true := by decide

/-- One flag changed by each kind of command the statement names. -/
theorem witness_ValidityFlagsChangeOnlyBy :
    got (fun t => t.status.padded) (exec .pad blank) = some true ∧
    got (fun t => t.status.blkv) (exec .loadblk padded) = some true ∧
    got (fun t => t.status.blkv) (exec .pad loaded) = some false ∧
    got (fun t => t.status.hv) (exec .init blank) = some true ∧
    got (fun t => t.status.dv) (exec .serialize started) = some true := by decide

/-- A coherent state whose step answers a next state: a HASH phase with nothing pending from the host. -/
theorem witness_InvariantIsKept : Coherent hashing ∧ got (fun t => t.seq) (step hashing) = some .init :=
  ⟨witness_hashing_coherent.1, by decide⟩

end Sys2Proof.Machine.Tests
end

section
/-! The invariant of 10_state.md is kept by every step. -/

namespace Sys2Proof.Machine

/-! The checks: what an accepted command knows (60_exceptions.md R111). -/

theorem checkLength_eq_none (s : State) :
    checkLength s = none ↔ s.len.toNat ≤ maxLen ∧ s.len.toNat ≤ s.msg.cap := by
  unfold checkLength
  split
  · simp; omega
  · split
    · simp; omega
    · simp; omega

theorem check_loadblk_eq_none (s : State) :
    check .loadblk s = none ↔ s.status.padded = true ∧ s.blkidx ≠ s.nblk := by
  cases h : s.status.padded <;> simp [check, h]

theorem check_compress_eq_none (s : State) :
    check .compress s = none ↔ s.status.hv = true ∧ s.status.blkv = true := by
  cases h : s.status.hv <;> simp [check, h]

theorem check_serialize_eq_none (s : State) : check .serialize s = none ↔ s.status.hv = true := by
  simp [check]

/-- No rejection is reported as ERRCODE 0, and none above 0x08 (60_exceptions.md R105). -/
theorem errByte_range (e : ErrCode) : errByte e ≠ 0 ∧ (errByte e).toNat ≤ 8 := by
  cases e <;> decide

/-- The block count of an acceptable length fits in NBLK (40_preprocessor.md R63). -/
theorem toNat_blockCount {n : Nat} (h : n ≤ maxLen) : (BitVec.ofNat 64 (blockCount n)).toNat = blockCount n := by
  unfold maxLen at h
  unfold blockCount
  rw [BitVec.toNat_ofNat]
  omega

/-! The invariant without the sequencer: what holds of a state in which a command is running, whatever its phase. -/

/-- The padding registers and MSG_CAP decide `PaddingOk`. -/
theorem PaddingOk.congr {s t : State} (h : PaddingOk s) (hplen : t.plen = s.plen := by rfl)
    (hnblk : t.nblk = s.nblk := by rfl) (hidx : t.blkidx = s.blkidx := by rfl)
    (hcap : t.msg.cap = s.msg.cap := by rfl) : PaddingOk t where
  range := hplen ▸ h.range
  fits := by rw [hplen, hcap]; exact h.fits
  count := by rw [hnblk, hplen]; exact h.count
  index := by rw [hidx, hnblk]; exact h.index

/-- `Coherent` in the middle of a command, without its phase: an action may start here and ends here. -/
structure Running (s : State) : Prop where
  memory : s.msg.wf = true
  busy : s.status.busy = true
  errCode : s.status.err = false ↔ s.status.errcode = 0
  knownCode : s.status.errcode.toNat ≤ 8
  padding : s.status.padded = true → PaddingOk s
  loaded : s.status.blkv = true → s.status.padded = true ∧ 0 < s.blkidx.toNat
  duty : s.touched = true → (runsLoadblk s || runsHash s) = true

/-- A coherent state outside IDLE has a command running. -/
theorem Coherent.running {s : State} (c : Coherent s) (h : s.seq ≠ .idle) : Running s where
  memory := c.memory
  busy := c.busySeq.mpr h
  errCode := c.errCode
  knownCode := c.knownCode
  padding := c.padding
  loaded := c.loaded
  duty := fun ht => (c.duty ht).2

/-- Acceptance starts a command. -/
theorem Coherent.running_accept {s : State} (c : Coherent s) (i : Instr) : Running (accept i s) where
  memory := c.memory
  busy := rfl
  errCode := by simp
  knownCode := by simp
  padding := fun h => (c.padding h).congr
  loaded := c.loaded
  duty := nofun

/-- The flags the invariant speaks of are kept, save that BLKV may be cleared. -/
structure KeepsFlags (x y : Status) : Prop where
  busy : y.busy = x.busy := by rfl
  err : y.err = x.err := by rfl
  errcode : y.errcode = x.errcode := by rfl
  padded : y.padded = x.padded := by rfl
  blkv : y.blkv = true → x.blkv = true := by exact id

namespace Running

variable {s : State}

/-- Completion of a running command: whatever the host wrote to MSG meanwhile, the core is coherent again. -/
theorem complete (r : Running s) : Coherent (complete s) where
  memory := by simpa using r.memory
  busySeq := by simp
  errCode := by simpa using r.errCode
  knownCode := by simpa using r.knownCode
  padding := by
    intro h
    have hp : s.status.padded = true := by simpa using h
    exact (r.padding hp).congr (by simp) (by simp) (by simp) (by simp)
  loaded := by simpa using r.loaded
  duty := by simp
  phase := by simp [PhaseOk]

/-- Going on to the next phase: only that phase's own conditions are left to show. -/
theorem enter (r : Running s) {p : Phase} (hp : p ≠ .idle) (hok : PhaseOk (enter p s)) : Coherent (enter p s) where
  memory := r.memory
  busySeq := iff_of_true r.busy hp
  errCode := r.errCode
  knownCode := r.knownCode
  padding := fun h => (r.padding h).congr
  loaded := r.loaded
  duty := fun h => ⟨r.busy, r.duty h⟩
  phase := hok

/-- A phase that goes on only for HASH, and completes every other command. -/
theorem enterIfHash (r : Running s) {p : Phase} (hp : p ≠ .idle)
    (hok : s.latch.opl = opcode .hash → PhaseOk (Machine.enter p s)) : Coherent (enterIfHash p s) := by
  unfold Machine.enterIfHash
  split
  · next h => exact r.enter hp (hok (by simpa [runsHash] using h))
  · exact r.complete

/-- The invariant does not speak of the results of a command, nor of HV and DV. -/
theorem with_results (r : Running s) {x : Status} (hx : KeepsFlags s.status x) (h : Vector Word 8)
    (d : Vector Byte 32) (a : Word) (w : Vector Word 64) (v : Work) :
    Running { s with status := x, h := h, digest := d, aluR := a, w := w, work := v } where
  memory := r.memory
  busy := hx.busy.trans r.busy
  errCode := by rw [hx.err, hx.errcode]; exact r.errCode
  knownCode := by rw [hx.errcode]; exact r.knownCode
  padding := fun h => (r.padding (hx.padded ▸ h)).congr
  loaded := fun h => by rw [hx.padded]; exact r.loaded (hx.blkv h)
  duty := r.duty

theorem initAction (r : Running s) : Running (initAction s) := r.with_results {} ..
theorem schedAction (r : Running s) : Running (schedAction s) := r.with_results {} ..
theorem expandAction (r : Running s) (i : Fin 64) : Running (expandAction i s) := r.with_results {} ..
theorem seedAction (r : Running s) : Running (seedAction s) := r.with_results {} ..
theorem roundAction (r : Running s) (i : Fin 64) : Running (roundAction i s) := r.with_results {} ..
theorem serAction (r : Running s) : Running (serAction s) := r.with_results {} ..
theorem accumAction (r : Running s) : Running (accumAction s) := r.with_results (x := compressStatus s.status) { blkv := nofun } ..
theorem compressAction (r : Running s) : Running (compressAction s) := r.with_results (x := compressStatus s.status) { blkv := nofun } ..

theorem aluAction (r : Running s) : Running (aluAction s) := by
  obtain ⟨a, ha⟩ := aluAction_eq s
  rw [ha]
  exact r.with_results {} ..

/-- PAD starts a padding of an acceptable length (40_preprocessor.md R67). -/
theorem padAction (r : Running s) (hmax : s.latch.lenl.toNat ≤ maxLen) (hcap : s.latch.lenl.toNat ≤ s.msg.cap) :
    Running (padAction s) where
  memory := r.memory
  busy := r.busy
  errCode := r.errCode
  knownCode := r.knownCode
  padding := fun _ => { range := hmax, fits := hcap, count := toNat_blockCount hmax, index := Nat.zero_le _ }
  loaded := nofun
  duty := r.duty

/-- LOADBLK moves on to the next block where one is left (40_preprocessor.md R68). -/
theorem loadAction (r : Running s) (hpad : s.status.padded = true) (hlt : s.blkidx.toNat < s.nblk.toNat) :
    Running (loadAction s) := by
  have hidx : (s.blkidx + 1).toNat = s.blkidx.toNat + 1 := by bv_omega
  have hp := r.padding hpad
  exact
    { memory := r.memory
      busy := r.busy
      errCode := r.errCode
      knownCode := r.knownCode
      padding := fun _ =>
        { range := hp.range, fits := hp.fits, count := hp.count, index := by rw [loadAction_blkidx, hidx]; exact hlt }
      loaded := fun _ => ⟨hpad, by rw [loadAction_blkidx, hidx]; exact Nat.succ_pos _⟩
      duty := r.duty }

/-- The block loop of HASH, from any block of a padding. -/
theorem hashBlocks (r : Running s) (hpad : s.status.padded = true) (n : Nat) : Running (hashBlocks n s) := by
  induction n generalizing s with
  | zero => exact r
  | succ n ih =>
    unfold Machine.hashBlocks
    split
    · next hlt => exact ih (r.loadAction hpad (BitVec.lt_def.mp hlt)).compressAction hpad
    · exact r

end Running

/-! A submission. -/

/-- A command that passes its checks meets the conditions of its first phase. -/
theorem phaseOk_accept {i : Instr} {s : State} (c : Coherent s) (hc : check i s = none) : PhaseOk (accept i s) := by
  cases i with
  | nop => exact rfl
  | init => exact .inl rfl
  | hash => exact ⟨.inr rfl, (checkLength_eq_none s).mp hc⟩
  | pad => exact ⟨.inl rfl, (checkLength_eq_none s).mp hc⟩
  | loadblk =>
    obtain ⟨hpad, hne⟩ := (check_loadblk_eq_none s).mp hc
    have hle := (c.padding hpad).index
    exact ⟨.inl rfl, hpad, Nat.lt_of_le_of_ne hle (mt BitVec.eq_of_toNat_eq hne)⟩
  | compress => exact ⟨.inl rfl, (check_compress_eq_none s).mp hc⟩
  | serialize => exact ⟨.inl rfl, (check_serialize_eq_none s).mp hc⟩
  | rotr n => exact .inl rfl
  | shr n => exact .inr (.inl rfl)
  | add32 => exact .inr (.inr rfl)

/-- Acceptance leaves the core in the first phase of a running command. -/
theorem Coherent.accept {i : Instr} {s : State} (c : Coherent s) (hc : check i s = none) : Coherent (accept i s) :=
  (c.running_accept i).enter (by cases i <;> nofun) (phaseOk_accept c hc)

/-- A rejection reports a known code (60_exceptions.md R106). -/
theorem Coherent.raiseCmdError {s : State} (c : Coherent s) (e : ErrCode) : Coherent (raiseCmdError e s) where
  memory := c.memory
  busySeq := c.busySeq
  errCode := iff_of_false nofun (errByte_range e).1
  knownCode := (errByte_range e).2
  padding := fun h => (c.padding h).congr
  loaded := c.loaded
  duty := c.duty
  phase := c.phase

theorem Coherent.submit {s : State} (c : Coherent s) (w : Word) : Coherent (submit w s) := by
  unfold Machine.submit
  split
  · exact c.raiseCmdError _
  · split
    · exact c.raiseCmdError _
    · split
      · exact c.raiseCmdError _
      · next hc => exact c.accept hc

/-! A command as one transition. -/

/-- The action of an accepted command, performed in one go, keeps the invariant. -/
theorem Coherent.running_actionOf {i : Instr} {s : State} (c : Coherent s) (hc : check i s = none) :
    Running (actionOf i (Machine.accept i s)) := by
  have r := c.running_accept i
  have hp := phaseOk_accept c hc
  cases i with
  | nop => exact r
  | init => exact r.initAction
  | hash => exact ((r.padAction hp.2.1 hp.2.2).initAction.hashBlocks rfl _).serAction
  | pad => exact r.padAction hp.2.1 hp.2.2
  | loadblk => exact r.loadAction hp.2.1 hp.2.2
  | compress => exact r.compressAction
  | serialize => exact r.serAction
  | rotr n => exact r.with_results {} ..
  | shr n => exact r.with_results {} ..
  | add32 => exact r.with_results {} ..

theorem Coherent.exec {i : Instr} {s t : State} (c : Coherent s) (h : exec i s = .next t) : Coherent t := by
  rw [exec_eq_runCommand] at h
  obtain ⟨-, rfl⟩ | ⟨-, e, -, rfl⟩ | ⟨-, hc, rfl⟩ := runCommand_cases h
  · exact c.raiseCmdError _
  · exact c.raiseCmdError _
  · exact (c.running_actionOf hc).complete

theorem Coherent.runWord {w : Word} {s t : State} (c : Coherent s) (h : runWord w s = .next t) : Coherent t := by
  unfold Machine.runWord at h
  split at h
  · cases h; exact c.raiseCmdError _
  · split at h
    · cases h; exact c.raiseCmdError _
    · exact c.exec h

/-! A phase of the sequencer. -/

/-- Every phase does its action from the conditions the invariant gives it, and so meets those of its successor. -/
theorem Coherent.coreStep {s : State} (c : Coherent s) : Coherent (coreStep s) := by
  by_cases hidle : s.seq = .idle
  · rw [coreStep_idle hidle]; exact c
  have r := c.running hidle
  have hp := c.phase
  unfold PhaseOk at hp
  cases hs : s.seq with
  | idle => exact absurd hs hidle
  | nop => rw [coreStep_nop hs]; exact r.complete
  | pad =>
    simp only [hs] at hp
    obtain ⟨-, hmax, hcap⟩ := hp
    rw [coreStep_pad hs]
    exact (r.padAction hmax hcap).enterIfHash nofun fun ho => .inr ⟨ho, rfl, rfl⟩
  | init =>
    simp only [hs] at hp
    rw [coreStep_init hs]
    refine r.initAction.enterIfHash nofun fun ho => ?_
    obtain hi | ⟨-, hpad, hblkv⟩ := hp
    · exact absurd (hi.symm.trans ho) (by decide)
    · exact ⟨ho, hpad, rfl, hblkv⟩
  | test =>
    simp only [hs] at hp
    obtain ⟨ho, hpad, hhv, hblkv⟩ := hp
    rw [coreStep_test hs]
    split
    · next hlt => exact r.enter nofun ⟨.inr ⟨ho, hhv⟩, hpad, BitVec.lt_def.mp hlt⟩
    · next hge =>
      have hend : s.blkidx = s.nblk := by
        have := (r.padding hpad).index
        bv_omega
      exact r.enter nofun ⟨.inr ⟨ho, hpad, hend, hblkv⟩, hhv⟩
  | load =>
    simp only [hs] at hp
    obtain ⟨hcmd, hpad, hlt⟩ := hp
    rw [coreStep_load hs]
    refine (r.loadAction hpad hlt).enterIfHash nofun fun ho => ?_
    obtain hl | ⟨-, hhv⟩ := hcmd
    · exact absurd (hl.symm.trans ho) (by decide)
    · exact ⟨.inr ho, hhv, rfl⟩
  | sched =>
    simp only [hs] at hp
    rw [coreStep_sched hs]
    exact r.schedAction.enter nofun ⟨hp, by decide⟩
  | expand i =>
    simp only [hs] at hp
    obtain ⟨hcmp, hi⟩ := hp
    rw [coreStep_expand hs]
    split
    · next hlt => exact (r.expandAction i).enter nofun ⟨hcmp, by omega⟩
    · exact (r.expandAction i).enter nofun hcmp
  | seed =>
    simp only [hs] at hp
    rw [coreStep_seed hs]
    exact r.seedAction.enter nofun hp
  | round i =>
    simp only [hs] at hp
    rw [coreStep_round hs]
    split
    · exact (r.roundAction i).enter nofun hp
    · exact (r.roundAction i).enter nofun hp
  | accum =>
    simp only [hs] at hp
    obtain ⟨-, hhv, hblkv⟩ := hp
    rw [coreStep_accum hs]
    exact r.accumAction.enterIfHash nofun fun ho => ⟨ho, (r.loaded hblkv).1, hhv, rfl⟩
  | ser => rw [coreStep_ser hs]; exact r.serAction.complete
  | alu => rw [coreStep_alu hs]; exact r.aluAction.complete

/-! The host's moves. -/

/-- The invariant does not speak of the host's registers, moves and reads. -/
theorem Coherent.with_hostSide {s : State} (c : Coherent s) (len : DWord) (a b : Word) (script : List Move)
    (log : List (BitVec 8 × Word)) (draws : Nat) :
    Coherent { s with len := len, aluA := a, aluB := b, script := script, readLog := log, draws := draws } where
  memory := c.memory
  busySeq := c.busySeq
  errCode := c.errCode
  knownCode := c.knownCode
  padding := fun h => (c.padding h).congr
  loaded := c.loaded
  duty := c.duty
  phase := c.phase

theorem Coherent.hostRead {s : State} (c : Coherent s) (r : BitVec 8) : Coherent (hostRead r s) :=
  c.with_hostSide ..

theorem Coherent.hostWrite {s : State} (c : Coherent s) (r : BitVec 8) (v : Word) : Coherent (hostWrite r v s) := by
  unfold Machine.hostWrite
  split
  · exact c.submit v
  · split
    · exact c.with_hostSide ..
    · split
      · exact c.with_hostSide ..
      · split
        · exact c.with_hostSide ..
        · split
          · exact c.with_hostSide ..
          · exact c

/-- A write below MSG_CAP; the mark of it is set only while a LOADBLK or HASH runs (log entry 9). -/
theorem Coherent.storeMsg {s : State} (c : Coherent s) {k : Nat} (hk : k < s.msg.cap) (b : Byte) :
    Coherent (storeMsg k b s) where
  memory := wf_writeByte s.msg k b hk c.memory
  busySeq := c.busySeq
  errCode := c.errCode
  knownCode := c.knownCode
  padding := fun h => (c.padding h).congr
  loaded := c.loaded
  duty := by
    intro h
    rw [storeMsg_touched, Bool.or_eq_true, Bool.and_eq_true] at h
    exact h.elim c.duty id
  phase := c.phase

theorem Coherent.resetEvent {s : State} (c : Coherent s) : Coherent (resetEvent s) where
  memory := c.memory
  busySeq := by simp [Status.zero]
  errCode := by simp [Status.zero]
  knownCode := by simp [Status.zero]
  padding := nofun
  loaded := nofun
  duty := nofun
  phase := trivial

theorem Coherent.pollStatus {s : State} (c : Coherent s) : Coherent (pollStatus s) := by
  unfold Machine.pollStatus
  split
  · exact c.coreStep.with_hostSide ..
  · exact c.hostRead _

/-- Every move of the host or the core keeps the invariant. -/
theorem Coherent.perform {m : Move} {s t : State} (c : Coherent s) (h : perform m s = .next t) : Coherent t := by
  cases m with
  | write r v => cases h; exact c.hostWrite r v
  | read r => cases h; exact c.hostRead r
  | msg k v =>
    simp only [Machine.perform, hostMsg] at h
    split at h
    · next hk => cases h; exact c.storeMsg hk v
    · cases h
  | rst => cases h; exact c.resetEvent
  | poll => cases h; exact c.pollStatus
  | run w => exact Coherent.runWord (c.with_hostSide ..) h
  | core => cases h; exact c.coreStep

/-- Settles O58: the core's own phase or the performed move keeps the invariant. -/
theorem invariantIsKept : Obligations.InvariantIsKept := by
  intro s t c h
  obtain ⟨-, hstep⟩ | ⟨m, rest, -, hstep⟩ := step_cases s
  · cases hstep.symm.trans h
    exact c.coreStep
  · exact Coherent.perform (c.with_hostSide ..) (hstep.symm.trans h)

end Sys2Proof.Machine
end

section
/-! What the commands leave unchanged (10_state.md R17, R22), and what HASH depends on (R37). -/

namespace Sys2Proof.Machine

/-! The block loop of HASH and HASH itself, as one update of the state. -/

/-- From a state without a loaded block the loop leaves STATUS as it was: each block it loads is compressed. -/
theorem hashBlocks_eq (n : Nat) {s : State} (hblkv : s.status.blkv = false) :
    ∃ k b h w v, hashBlocks n s = { s with blkidx := k, block := b, h := h, w := w, work := v } := by
  induction n generalizing s with
  | zero => exact ⟨_, _, _, _, _, rfl⟩
  | succ n ih =>
    unfold hashBlocks
    split
    · obtain ⟨k, b, h, w, v, e⟩ := ih (s := compressAction (loadAction s)) rfl
      have hstatus : compressStatus (loadStatus s.status) = s.status := by
        simp [compressStatus, loadStatus, ← hblkv]
      refine ⟨k, b, h, w, v, ?_⟩
      rw [e, compressAction_status, loadAction_status, hstatus]
      rfl
    · exact ⟨_, _, _, _, _, rfl⟩

/-- The elements HASH writes (44_hash.md R101), its digest and STATUS by their values. -/
theorem hashAction_eq (s : State) :
    ∃ k b h w v, hashAction s =
      { padAction s with
        blkidx := k, block := b, h := h, w := w, work := v, digest := digestOfWords h
        status := serializeStatus (initStatus (padStatus s.status)) } := by
  obtain ⟨k, b, h, w, v, e⟩ :=
    hashBlocks_eq (initAction (padAction s)).nblk.toNat (s := initAction (padAction s)) rfl
  refine ⟨k, b, h, w, v, ?_⟩
  simp only [hashAction, e]
  rfl

/-! Running a command with no host move between. -/

/-- An action is no MSG write. -/
theorem actionOf_touched (i : Instr) (s : State) : (actionOf i s).touched = s.touched := by
  cases i with
  | hash =>
    obtain ⟨k, b, h, w, v, e⟩ := hashAction_eq s
    simp [actionOf, e]
  | _ => rfl

/-- An accepted command completes with the results of its action, since the host has no move before completion. -/
theorem exec_accepted {i : Instr} {s : State} (hb : s.status.busy = false) (hc : check i s = none) :
    exec i s = .next (toIdle (actionOf i (accept i s))) := by
  rw [exec_eq_runCommand, runCommand_accepted i _ hb hc, complete_untouched (actionOf_touched ..)]

/-- What a command can do: report an error and change nothing else, or act and complete. -/
theorem exec_cases {i : Instr} {s t : State} (h : exec i s = .next t) :
    (∃ e, t = raiseCmdError e s) ∨
    (s.status.busy = false ∧ check i s = none ∧ t = toIdle (actionOf i (accept i s))) := by
  have hrun := h
  rw [exec_eq_runCommand] at hrun
  obtain ⟨-, rfl⟩ | ⟨-, e, -, rfl⟩ | ⟨hb, hc, -⟩ := runCommand_cases hrun
  · exact .inl ⟨_, rfl⟩
  · exact .inl ⟨e, rfl⟩
  · rw [exec_accepted hb hc] at h
    cases h
    exact .inr ⟨hb, hc, rfl⟩

/-- Settles O55: a rejection changes STATUS alone, and the action of each command is an update of the elements it is
listed for. -/
theorem commandsWriteOnlyTheirElements : Obligations.CommandsWriteOnlyTheirElements := by
  intro i s t h
  obtain ⟨e, rfl⟩ | ⟨-, -, rfl⟩ := exec_cases h
  · simp
  · cases i with
    | hash =>
      obtain ⟨k, b, h, w, v, e⟩ := hashAction_eq (accept .hash s)
      simp [actionOf, e]
    | _ => simp [actionOf]

/-- Settles O56: a rejection, acceptance and completion keep the four validity flags, so each changes as the command's
action says. -/
theorem validityFlagsChangeOnlyBy : Obligations.ValidityFlagsChangeOnlyBy := by
  intro i s t h
  obtain ⟨e, rfl⟩ | ⟨-, -, rfl⟩ := exec_cases h
  · simp
  · cases i with
    | hash =>
      obtain ⟨k, b, h, w, v, e⟩ := hashAction_eq (accept .hash s)
      simp [actionOf, e]
    | _ => simp [actionOf]

/-! The data HASH reads. -/

/-- A padded block depends on MSG only below the message length (40_preprocessor.md R64). -/
theorem paddedBlock_congr {m m' : MsgMemory} {n : Nat} (h : ∀ k, k < n → m.readByte k = m'.readByte k)
    (blocks j : Nat) : paddedBlock m n blocks j = paddedBlock m' n blocks j := by
  have hbyte : ∀ k, padByte m n blocks k = padByte m' n blocks k := by
    intro k
    unfold padByte
    split
    · next hk => exact h k hk
    · rfl
  simp only [paddedBlock, hbyte]

/-- The expansion to the end of W forgets what W held from the first expanded index on: each word is computed from the
words before it (41_compressor.md R78). -/
theorem expandFrom_congr (n : Nat) {i : Fin 64} (hi : 16 ≤ i.val) (hend : i.val + n = 64) {w v : Vector Word 64}
    (h : ∀ t : Fin 64, t.val < i.val → w[t] = v[t]) : expandFrom n i w = expandFrom n i v := by
  induction n generalizing i w v with
  | zero => omega
  | succ n ih =>
    have hword : expandWord w i = expandWord v i := by
      simp only [expandWord, h (i - 16) (by omega), h (i - 15) (by omega), h (i - 7) (by omega), h (i - 2) (by omega)]
    have hnext : ∀ t : Fin 64, t.val < i.val + 1 → (expandAt w i)[t] = (expandAt v i)[t] := by
      intro t ht
      simp only [expandAt, hword, Fin.getElem_fin, Vector.getElem_set]
      split
      · rfl
      · exact h t (by omega)
    unfold expandFrom
    cases n with
    | zero =>
      refine Vector.ext fun t ht => hnext ⟨t, ht⟩ ?_
      show t < i.val + 1
      omega
    | succ n => exact ih (by omega) (by omega) fun t ht => hnext t (by omega)

/-- The schedule of a block does not depend on what W held (41_compressor.md R77, R78). -/
theorem schedule_forgets (b : Vector Byte 64) (w v : Vector Word 64) : schedule b w = schedule b v := by
  unfold schedule
  refine expandFrom_congr 48 (by decide) (by decide) fun t ht => ?_
  have ht : t.val < 16 := ht
  simp [schedLoad, ht]

/-- Two states from which HASH computes the same: equal padding registers and H, and equal bytes of the message. -/
structure SameHashInput (s u : State) : Prop where
  plen : s.plen = u.plen
  nblk : s.nblk = u.nblk
  blkidx : s.blkidx = u.blkidx
  h : s.h = u.h
  bytes : ∀ k, k < s.plen.toNat → s.msg.readByte k = u.msg.readByte k

/-- Loading a block and compressing it gives equal blocks and equal H. -/
theorem SameHashInput.oneBlock {s u : State} (r : SameHashInput s u) :
    SameHashInput (compressAction (loadAction s)) (compressAction (loadAction u)) ∧
    (compressAction (loadAction s)).block = (compressAction (loadAction u)).block := by
  have hblock : (loadAction s).block = (loadAction u).block := by
    rw [loadAction_block, loadAction_block, paddedBlock_congr r.bytes, r.plen, r.nblk, r.blkidx]
  refine ⟨⟨r.plen, r.nblk, by simp [r.blkidx], ?_, r.bytes⟩, hblock⟩
  simp only [compressAction_h, loadAction_h, loadAction_w, hblock, r.h, schedule_forgets _ s.w u.w]

/-- So does the block loop; BLOCK is equal in the end if it was before or if one block at least is loaded. -/
theorem SameHashInput.hashBlocks (n : Nat) {s u : State} (r : SameHashInput s u)
    (hb : s.block = u.block ∨ (0 < n ∧ s.blkidx < s.nblk)) :
    SameHashInput (hashBlocks n s) (hashBlocks n u) ∧ (hashBlocks n s).block = (hashBlocks n u).block := by
  induction n generalizing s u with
  | zero => exact ⟨r, hb.resolve_right (fun hn => Nat.lt_irrefl 0 hn.1)⟩
  | succ n ih =>
    obtain ⟨rnext, hblock⟩ := r.oneBlock
    unfold Machine.hashBlocks
    rw [← r.blkidx, ← r.nblk]
    split
    · exact ih rnext (.inl hblock)
    · next hge => exact ⟨r, hb.resolve_right fun hlt => hge hlt.2⟩

/-- PAD and INIT give the block loop the same input, and the loop loads a block, so HASH writes the same results. -/
theorem hashAction_forgets {s u : State} (hlen : s.latch.lenl = u.latch.lenl) (hmax : s.latch.lenl.toNat ≤ maxLen)
    (hbytes : ∀ k, k < s.latch.lenl.toNat → s.msg.readByte k = u.msg.readByte k) :
    (hashAction s).digest = (hashAction u).digest ∧ (hashAction s).h = (hashAction u).h ∧
    (hashAction s).block = (hashAction u).block := by
  have hnblk : (padAction s).nblk = (padAction u).nblk := by simp [lengthOperand, hlen]
  have hsome : (0 : DWord) < (padAction s).nblk := by
    rw [BitVec.lt_def, padAction_nblk, lengthOperand, toNat_blockCount hmax]
    exact Nat.succ_pos _
  have r : SameHashInput (initAction (padAction s)) (initAction (padAction u)) := ⟨hlen, hnblk, rfl, rfl, hbytes⟩
  obtain ⟨⟨-, -, -, hh, -⟩, hblock⟩ := r.hashBlocks (padAction s).nblk.toNat (.inr ⟨BitVec.lt_def.mp hsome, hsome⟩)
  simp only [hashAction, serAction_digest, serAction_h, serAction_block, initAction_nblk, ← hnblk]
  exact ⟨congrArg digestOfWords hh, hh, hblock⟩

/-- STATUS after an accepted HASH is 0x00000034, whatever it was (44_hash.md R101). -/
theorem hashAction_accept_status (s : State) :
    completedStatus (hashAction (accept .hash s)).status = ⟨false, false, true, false, true, true, 0⟩ := by
  obtain ⟨k, b, h, w, v, e⟩ := hashAction_eq (accept .hash s)
  rw [e]
  rfl

/-- Settles O53: both states accept HASH, with equal latched lengths and equal message bytes. -/
theorem hashForgetsTheEarlierState : Obligations.HashForgetsTheEarlierState := by
  intro s u hsb hub hlen hmax hscap hucap hbytes
  have hsc : check .hash s = none := (checkLength_eq_none s).mpr ⟨hmax, hscap⟩
  have huc : check .hash u = none := (checkLength_eq_none u).mpr (hlen ▸ ⟨hmax, hucap⟩)
  obtain ⟨hdigest, hh, hblock⟩ :=
    hashAction_forgets (s := accept .hash s) (u := accept .hash u) hlen hmax hbytes
  exact ⟨_, _, exec_accepted hsb hsc, exec_accepted hub huc, hdigest, hh, hblock,
    (hashAction_accept_status s).trans (hashAction_accept_status u).symm⟩

end Sys2Proof.Machine
end

section
/-! STATUS and the register map (10_state.md R18 to R21). -/

namespace Sys2Proof.Machine

/-! The STATUS word. -/

/-- The word of a flag has that one bit. -/
theorem getLsbD_flagBit (f : Bool) {k : Nat} (hk : k < 32) (j : Nat) :
    (flagBit f k).getLsbD j = (f && decide (j = k)) := by
  cases f with
  | false => simp [flagBit]
  | true =>
    by_cases hj : j = k
    · simp [flagBit, hj, hk]
    · simp [flagBit, hj]; omega

/-- Each bit of STATUS is a flag, a bit of ERRCODE or 0. -/
theorem getLsbD_statusWord (x : Status) (j : Nat) :
    (statusWord x).getLsbD j =
      (x.busy && decide (j = 0) || x.err && decide (j = 1) || x.padded && decide (j = 2) || x.blkv && decide (j = 3) ||
        x.hv && decide (j = 4) || x.dv && decide (j = 5) || decide (8 ≤ j) && x.errcode.getLsbD (j - 8)) := by
  have herr : (x.errcode.zeroExtend 32 <<< 8).getLsbD j = (decide (8 ≤ j) && x.errcode.getLsbD (j - 8)) := by
    by_cases hj : j < 32
    · have hle : decide (8 ≤ j) = !decide (j < 8) := by rw [← decide_not]; simp only [Nat.not_lt]
      simp [hle, hj]
    · simp [hj, BitVec.getLsbD_of_ge x.errcode (j - 8) (by omega)]
  simp [statusWord, getLsbD_flagBit, herr]

/-- Settles O21: the flags bit by bit; in the three fields above them no flag has a bit. -/
theorem statusWordLayout : Obligations.StatusWordLayout := by
  intro x
  have high : ∀ j, 6 ≤ j → (statusWord x).getLsbD j = (decide (8 ≤ j) && x.errcode.getLsbD (j - 8)) := by
    intro j hj
    simp [getLsbD_statusWord, show j ≠ 0 ∧ j ≠ 1 ∧ j ≠ 2 ∧ j ≠ 3 ∧ j ≠ 4 ∧ j ≠ 5 by omega]
  refine ⟨?_, ?_, ?_, ?_, ?_, ?_, BitVec.eq_of_getLsbD_eq fun j hj => ?_, BitVec.eq_of_getLsbD_eq fun j hj => ?_,
    BitVec.eq_of_getLsbD_eq fun j hj => ?_⟩
  case refine_7 =>
    have hbelow : ¬ 8 ≤ 6 + j := by omega
    rw [BitVec.getLsbD_extractLsb', high _ (by omega)]
    simp [hbelow]
  case refine_8 =>
    rw [BitVec.getLsbD_extractLsb', high _ (by omega)]
    simp [hj]
  case refine_9 =>
    rw [BitVec.getLsbD_extractLsb', high _ (by omega), BitVec.getLsbD_of_ge x.errcode _ (by omega)]
    simp
  all_goals rw [getLsbD_statusWord]; simp

/-! Reads. -/

/-- While BUSY = 0 a read returns the content of the register. -/
theorem readValue_idle {s : State} (h : s.status.busy = false) (r : BitVec 8) : readValue r s = regContent r s := by
  simp [readValue, h]

/-- While BUSY = 0 a read takes no free word. -/
theorem readDraws_idle {s : State} (h : s.status.busy = false) (r : BitVec 8) : readDraws r s = 0 := by
  simp [readDraws, h]

/-! The content of the three arrays of registers (10_state.md R18). -/

theorem regContent_h {r : BitVec 8} (s : State) (i : Fin 8) (h : r.toNat = 0x10 + i.val) :
    regContent r s = s.h[i] := by
  simp (disch := omega) only [regContent, if_neg, dif_neg, dif_pos]
  simp [h]

theorem regContent_digest {r : BitVec 8} (s : State) (i : Fin 8) (h : r.toNat = 0x18 + i.val) :
    regContent r s = digestWord s.digest i := by
  simp (disch := omega) only [regContent, if_neg, dif_neg, dif_pos]
  simp [h]

theorem regContent_block {r : BitVec 8} (s : State) (k : Fin 16) (h : r.toNat = 0x20 + k.val) :
    regContent r s = blockWord s.block k := by
  simp (disch := omega) only [regContent, if_neg, dif_neg, dif_pos]
  simp [h]

/-- CMD and the reserved indices read 0 at all times: neither content nor open bits stand there (10_state.md R19, R20). -/
theorem readValue_reserved {r : BitVec 8} (h : r = 0 ∨ (0x0B ≤ r.toNat ∧ r.toNat ≤ 0x0F) ∨ 0x30 ≤ r.toNat)
    (s : State) : readValue r s = 0 := by
  have hk : r.toNat = 0 ∨ (0x0B ≤ r.toNat ∧ r.toNat ≤ 0x0F) ∨ 0x30 ≤ r.toNat := h.imp_left (congrArg BitVec.toNat)
  have hcontent : regContent r s = 0 := by
    simp (disch := omega) only [regContent, if_neg, dif_neg]
  have hopen : openBits r = 0 := by
    unfold openBits
    rw [if_neg (by omega), if_neg (by omega)]
  simp [readValue, hcontent, hopen]

/-- Settles O22: the indices named one by one compute; the three arrays and the reserved indices have their lemmas. -/
theorem idleReadsFollowTheMap : Obligations.IdleReadsFollowTheMap := by
  intro s hb
  have read := readValue_idle hb
  refine ⟨fun r rest => ?_, read _, read _, read _, read _, read _, read _, read _, read _, read _, read _, read _,
    fun i => ?_, fun i => ?_, fun k => ?_, fun r hr => readValue_reserved (.inr hr) s⟩
  · rw [step_move, perform, hostRead, readDraws_idle (s := { s with script := rest }) hb]
    rfl
  · rw [read]
    exact regContent_h s i (by simp; omega)
  · rw [read]
    exact regContent_digest s i (by simp; omega)
  · rw [read]
    exact regContent_block s k (by simp; omega)

/-! Writes. -/

/-- Settles O24: `hostWrite` by its index. -/
theorem hostWritesStoreOrVanish : Obligations.HostWritesStoreOrVanish := by
  intro s v rest
  refine ⟨rfl, rfl, rfl, rfl, rfl, fun r hr => ?_, fun r hr => readValue_reserved hr s⟩
  obtain ⟨h0, h2, h3, h8, h9⟩ : r ≠ 0x00 ∧ r ≠ 0x02 ∧ r ≠ 0x03 ∧ r ≠ 0x08 ∧ r ≠ 0x09 := by simpa using hr
  simp only [step_move, perform, hostWrite, h0, h2, h3, h8, h9, if_false]

end Sys2Proof.Machine
end

section
/-! The message memory MSG (20_memory.md R38 to R41, R53): what a write makes it read, and which step may write it. -/

namespace Sys2Proof.Machine

/-! Reading after writing. -/

/-- The written address is found with its byte, every other address as before, in any order of the cells. -/
theorem lookup_insert (cells : List Host.Cell) (k j : Nat) (b : Byte) :
    MsgMemory.lookup (MsgMemory.insert cells k b) j = if j = k then some b else MsgMemory.lookup cells j := by
  induction cells with
  | nil => simp [MsgMemory.insert, MsgMemory.lookup, eq_comm]
  | cons c rest ih =>
    unfold MsgMemory.insert
    split
    · simp [MsgMemory.lookup, eq_comm]
    · split
      · next hkc =>
        subst hkc
        simp only [MsgMemory.lookup, eq_comm (a := j)]
        split <;> rfl
      · simp only [MsgMemory.lookup, ih]
        split
        · next hcj => rw [if_neg (by omega)]
        · rfl

/-- Settles O19: `readByte` is `lookup` with a value for the addresses not listed. -/
theorem msgReadsWhatWasWritten : Obligations.MsgReadsWhatWasWritten := by
  intro m k j b
  simp only [MsgMemory.readByte, MsgMemory.writeByte, lookup_insert]
  by_cases hj : j = k
  · simp only [if_pos hj]
  · simp only [if_neg hj]

/-! The MSG write move. -/

/-- The move is performed exactly below MSG_CAP. -/
theorem hostMsg_eq_next_iff {k : DWord} {b : Byte} {s t : State} :
    hostMsg k b s = .next t ↔ k.toNat < s.msg.cap ∧ t = storeMsg k.toNat b s := by
  unfold hostMsg
  split
  · next hk => simp [hk, eq_comm]
  · next hk => simp [hk]

/-- It faults exactly from MSG_CAP on. -/
theorem hostMsg_faults_iff {k : DWord} {b : Byte} {s : State} :
    (∃ f, hostMsg k b s = .fault f) ↔ s.msg.cap ≤ k.toNat := by
  unfold hostMsg
  split
  · next hk => exact iff_of_false nofun (Nat.not_le.mpr hk)
  · next hk => exact iff_of_true ⟨_, rfl⟩ (Nat.not_lt.mp hk)

theorem hostMsg_ne_refused (k : DWord) (b : Byte) (s : State) (r : Refusal) : hostMsg k b s ≠ .refused r := by
  unfold hostMsg
  split <;> nofun

/-- The mark of an MSG write, by the opcodes of LOADBLK and HASH. -/
theorem runsLoadblk_or_runsHash (s : State) :
    (runsLoadblk s || runsHash s) = decide (s.latch.opl = 0x04 ∨ s.latch.opl = 0x01) := by
  rw [Bool.decide_or]
  rfl

/-! Every other move answers a next state and keeps MSG. -/

/-- Every command answers a next state. -/
theorem exec_answers (i : Instr) (s : State) : ∃ t, exec i s = .next t := by
  rw [exec_eq_runCommand]
  cases hb : s.status.busy with
  | true => exact ⟨_, runCommand_busy i _ hb⟩
  | false =>
    cases hc : check i s with
    | some e => exact ⟨_, runCommand_rejected i _ hb hc⟩
    | none => exact ⟨_, runCommand_accepted i _ hb hc⟩

theorem exec_keeps_msg (i : Instr) (s : State) : ∃ t, exec i s = .next t ∧ t.msg = s.msg := by
  obtain ⟨t, ht⟩ := exec_answers i s
  obtain ⟨-, -, -, hmsg, -⟩ := commandsWriteOnlyTheirElements i s t ht
  exact ⟨t, ht, hmsg⟩

theorem runWord_keeps_msg (w : Word) (s : State) : ∃ t, runWord w s = .next t ∧ t.msg = s.msg := by
  unfold runWord
  split
  · exact ⟨_, rfl, rfl⟩
  · split
    · exact ⟨_, rfl, rfl⟩
    · exact exec_keeps_msg ..

@[simp] theorem coreStep_msg (s : State) : (coreStep s).msg = s.msg := by
  obtain ⟨-, -, -, hmsg, -⟩ := coreStep_hostSide s
  exact hmsg

@[simp] theorem submit_msg (w : Word) (s : State) : (submit w s).msg = s.msg := by
  unfold submit
  split
  · rfl
  · split
    · rfl
    · split <;> rfl

@[simp] theorem hostWrite_msg (r : BitVec 8) (v : Word) (s : State) : (hostWrite r v s).msg = s.msg := by
  simp only [hostWrite, apply_ite State.msg, submit_msg, writeLenLo_msg, writeLenHi_msg, writeAluA_msg, writeAluB_msg,
    ite_self]

@[simp] theorem pollStatus_msg (s : State) : (pollStatus s).msg = s.msg := by
  simp only [pollStatus, apply_ite State.msg, State.pushMove_msg, coreStep_msg, hostRead_msg, ite_self]

/-- A move is an MSG write, or it answers a next state with MSG as it was. -/
theorem perform_msg_cases (m : Move) (s : State) :
    (∃ k v, m = .msg k v) ∨ ∃ t, perform m s = .next t ∧ t.msg = s.msg := by
  cases m with
  | write r v => exact .inr ⟨_, rfl, hostWrite_msg ..⟩
  | read r => exact .inr ⟨_, rfl, rfl⟩
  | msg k v => exact .inl ⟨k, v, rfl⟩
  | rst => exact .inr ⟨_, rfl, rfl⟩
  | poll => exact .inr ⟨_, rfl, pollStatus_msg s⟩
  | run w => exact .inr (runWord_keeps_msg w _)
  | core => exact .inr ⟨_, rfl, coreStep_msg s⟩

/-! The step. -/

theorem step_msg {s : State} {k : DWord} {v : Byte} {rest : List Move} (h : s.script = .msg k v :: rest) :
    step s = hostMsg k v { s with script := rest } := by
  simp only [step, advance, h, perform]

/-- A step is a host MSG write, or it answers a next state with MSG as it was. -/
theorem step_msg_cases (s : State) :
    (∃ k v rest, s.script = .msg k v :: rest) ∨ ∃ t, step s = .next t ∧ t.msg = s.msg := by
  obtain ⟨-, hstep⟩ | ⟨m, rest, hscript, hstep⟩ := step_cases s
  · exact .inr ⟨_, hstep, coreStep_msg s⟩
  · rw [hstep]
    exact (perform_msg_cases m _).imp_left fun ⟨k, v, hm⟩ => ⟨k, v, rest, hm ▸ hscript⟩

/-- Settles O20: the write move by its definition; a step that is no such move keeps MSG. -/
theorem onlyHostWritesMsg : Obligations.OnlyHostWritesMsg := by
  refine ⟨fun s k v rest hk => ?_, fun s t h => ?_⟩
  · rw [step_move]
    refine hostMsg_eq_next_iff.mpr ⟨hk, ?_⟩
    rw [storeMsg, runsLoadblk_or_runsHash]
  · obtain ⟨k, v, rest, hscript⟩ | ⟨u, hstep, hmsg⟩ := step_msg_cases s
    · rw [step_msg hscript] at h
      obtain ⟨hk, rfl⟩ := hostMsg_eq_next_iff.mp h
      exact ⟨rfl, fun _ => ⟨k, v, rest, hscript, hk, rfl⟩⟩
    · cases hstep.symm.trans h
      exact ⟨congrArg MsgMemory.cap hmsg, fun hne => absurd hmsg hne⟩

/-- Settles O32: of the moves only the MSG write can fail to answer a next state. -/
theorem onlyOutsideWriteStops : Obligations.OnlyOutsideWriteStops := by
  intro s
  refine ⟨fun r hr => ?_, fun ⟨f, hf⟩ => ?_, fun ⟨k, v, rest, hscript, hk⟩ => ?_⟩
  · obtain ⟨k, v, rest, hscript⟩ | ⟨t, hstep, -⟩ := step_msg_cases s
    · exact hostMsg_ne_refused k v _ r ((step_msg hscript).symm.trans hr)
    · cases hstep.symm.trans hr
  · obtain ⟨k, v, rest, hscript⟩ | ⟨t, hstep, -⟩ := step_msg_cases s
    · have hout := hostMsg_faults_iff.mp ⟨f, (step_msg hscript).symm.trans hf⟩
      exact ⟨k, v, rest, hscript, hout⟩
    · cases hstep.symm.trans hf
  · rw [step_msg hscript]
    exact hostMsg_faults_iff.mpr hk

end Sys2Proof.Machine
end

section
/-! Encoding (30_encoding.md): a word is its three fields, and the decoder's verdict in terms of them. -/

namespace Sys2Proof.Machine

/-! The fields of a word (R54). -/

theorem append_fields (w : Word) : reservedField w ++ shiftField w ++ opField w = w := by
  unfold reservedField shiftField opField
  have upper : w.extractLsb' 13 19 ++ w.extractLsb' 8 5 = w.extractLsb' 8 24 :=
    BitVec.extractLsb'_append_extractLsb'_eq_extractLsb' rfl
  have whole : w.extractLsb' 8 24 ++ w.extractLsb' 0 8 = w.extractLsb' 0 32 :=
    BitVec.extractLsb'_append_extractLsb'_eq_extractLsb' rfl
  rw [upper, whole, BitVec.extractLsb'_eq_self]

/-- Two words with the same three fields are one word. -/
theorem word_eq_iff_fields {w v : Word} :
    w = v ↔ reservedField w = reservedField v ∧ shiftField w = shiftField v ∧ opField w = opField v := by
  constructor
  · rintro rfl
    exact ⟨rfl, rfl, rfl⟩
  · rintro ⟨hr, hn, ho⟩
    rw [← append_fields w, ← append_fields v, hr, hn, ho]

theorem reservedField_and (w v : Word) : reservedField (w &&& v) = reservedField w &&& reservedField v :=
  BitVec.extractLsb'_and

theorem shiftField_and (w v : Word) : shiftField (w &&& v) = shiftField w &&& shiftField v :=
  BitVec.extractLsb'_and

theorem opField_and (w v : Word) : opField (w &&& v) = opField w &&& opField v :=
  BitVec.extractLsb'_and

/-- The opcodes of R56. -/
def assignedOpcodes : List (BitVec 8) := [0x00, 0x01, 0x02, 0x03, 0x04, 0x05, 0x06, 0x10, 0x11, 0x12]

theorem opcode_mem_assigned (i : Instr) : opcode i ∈ assignedOpcodes := by
  cases i <;> simp [opcode, assignedOpcodes]

/-- The well-formedness check in terms of the fields (R58). -/
theorem wellFormed_iff_fields (w : Word) :
    CommandWord.wellFormed w = true ↔
      reservedField w = 0 ∧ opField w ∈ assignedOpcodes ∧ (shiftField w = 0 ∨ opField w = 0x10 ∨ opField w = 0x11) := by
  simp [CommandWord.wellFormed, CommandWord.reservedClear, CommandWord.opcodeAssigned, CommandWord.shiftAllowed,
    reservedField, opField, shiftField, assignedOpcodes, and_assoc, or_assoc]

/-! The word of a command (R59). -/

theorem legalWord (i : Instr) : Laws.LegalWord.Statement i := by
  cases i with
  | nop => exact Laws.LegalWord.nop
  | hash => exact Laws.LegalWord.hash
  | pad => exact Laws.LegalWord.pad
  | init => exact Laws.LegalWord.init
  | loadblk => exact Laws.LegalWord.loadblk
  | compress => exact Laws.LegalWord.compress
  | serialize => exact Laws.LegalWord.serialize
  | rotr n => exact Laws.LegalWord.rotr n
  | shr n => exact Laws.LegalWord.shr n
  | add32 => exact Laws.LegalWord.add32

@[simp] theorem wellFormed_encode (i : Instr) : CommandWord.wellFormed (encode i) = true := (legalWord i).1

@[simp] theorem opField_encode (i : Instr) : opField (encode i) = opcode i := (legalWord i).2.1

@[simp] theorem shiftField_encode (i : Instr) : shiftField (encode i) = shiftAmount i := (legalWord i).2.2

@[simp] theorem reservedField_encode (i : Instr) : reservedField (encode i) = 0 :=
  ((wellFormed_iff_fields _).mp (wellFormed_encode i)).1

theorem eq_encode_iff {w : Word} {i : Instr} :
    w = encode i ↔ reservedField w = 0 ∧ shiftField w = shiftAmount i ∧ opField w = opcode i := by
  rw [word_eq_iff_fields, reservedField_encode, shiftField_encode, opField_encode]

/-! The decoder (R57). -/

theorem fields_of_plainCommand {op : BitVec 8} {i : Instr} (h : plainCommand op = some i) :
    op = opcode i ∧ shiftAmount i = 0 := by
  unfold plainCommand at h
  split_ifs at h <;> cases h <;> subst op <;> exact ⟨rfl, rfl⟩

/-- A word the decoder accepts has the fields of the command it gives. -/
theorem fields_of_decode {w : Word} {i : Instr} (h : decode w = .command i) :
    reservedField w = 0 ∧ shiftField w = shiftAmount i ∧ opField w = opcode i := by
  unfold decode at h
  split at h
  · cases h
  next hres =>
  have hres : reservedField w = 0 := not_not.mp hres
  split at h
  next hop => cases h; exact ⟨hres, rfl, hop⟩
  split at h
  next hop => cases h; exact ⟨hres, rfl, hop⟩
  split at h
  · cases h
  next j hplain =>
  split at h
  · cases h
  next hshift =>
  cases h
  obtain ⟨hop, hzero⟩ := fields_of_plainCommand hplain
  exact ⟨hres, (not_not.mp hshift).trans hzero.symm, hop⟩

theorem decode_encode (i : Instr) : decode (encode i) = .command i := by
  unfold decode
  rw [reservedField_encode, opField_encode, shiftField_encode]
  cases i <;> rfl

/-- The decoder reads a command exactly from the word with the command's fields. -/
theorem decode_eq_command_iff {w : Word} {i : Instr} :
    decode w = .command i ↔ reservedField w = 0 ∧ shiftField w = shiftAmount i ∧ opField w = opcode i := by
  constructor
  · exact fields_of_decode
  · intro h
    rw [eq_encode_iff.mpr h]
    exact decode_encode i

/-- Settles O4: both sides say that the word's fields are the command's. -/
theorem decodeInvertsEncode : Obligations.DecodeInvertsEncode :=
  fun _ _ => decode_eq_command_iff.trans eq_encode_iff.symm

/-! The illegal words (R58). -/

/-- Every well-formed choice of OP and N is that of a command. -/
theorem exists_instr_of_fields {op : BitVec 8} {n : BitVec 5} (hop : op ∈ assignedOpcodes)
    (hn : n = 0 ∨ op = 0x10 ∨ op = 0x11) : ∃ i, shiftAmount i = n ∧ opcode i = op := by
  have plain : ∀ op ∈ assignedOpcodes, op = 0x10 ∨ op = 0x11 ∨ (plainCommand op).isSome := by decide
  obtain rfl | rfl | hsome := plain op hop
  · exact ⟨.rotr n, rfl, rfl⟩
  · exact ⟨.shr n, rfl, rfl⟩
  · obtain ⟨i, hi⟩ := Option.isSome_iff_exists.mp hsome
    obtain ⟨hopc, hzero⟩ := fields_of_plainCommand hi
    have hn : n = 0 := by
      rcases hn with hn | rfl | rfl
      · exact hn
      · simp [plainCommand] at hi
      · simp [plainCommand] at hi
    exact ⟨i, hzero.trans hn.symm, hopc.symm⟩

/-- The well-formedness check accepts the words the decoder accepts (R58). -/
theorem wellFormed_iff_decodes (w : Word) : CommandWord.wellFormed w = true ↔ ∃ i, decode w = .command i := by
  constructor
  · intro h
    obtain ⟨hres, hop, hn⟩ := (wellFormed_iff_fields w).mp h
    obtain ⟨i, hshift, hopc⟩ := exists_instr_of_fields hop hn
    exact ⟨i, decode_eq_command_iff.mpr ⟨hres, hshift.symm, hopc.symm⟩⟩
  · rintro ⟨i, h⟩
    rw [(decodeInvertsEncode w i).mp h]
    exact wellFormed_encode i

/-- A word is illegal exactly when it fails the well-formedness check (R58). -/
theorem illegal_iff_not_wellFormed (w : Word) : (∃ c, decode w = .illegal c) ↔ CommandWord.wellFormed w = false := by
  rw [← Bool.not_eq_true, wellFormed_iff_decodes]
  cases decode w <;> simp

theorem wellFormed_eq_false_iff_fields (w : Word) :
    CommandWord.wellFormed w = false ↔
      reservedField w ≠ 0 ∨ opField w ∉ assignedOpcodes ∨ (shiftField w ≠ 0 ∧ opField w ≠ 0x10 ∧ opField w ≠ 0x11) := by
  rw [← Bool.not_eq_true, wellFormed_iff_fields]
  tauto

theorem not_mem_assignedOpcodes_iff (op : BitVec 8) :
    op ∉ assignedOpcodes ↔ (0x07 ≤ op.toNat ∧ op.toNat ≤ 0x0F) ∨ 0x13 ≤ op.toNat := by
  revert op
  decide

/-- An illegal word submitted to an idle core is rejected with BAD_CMD (R57, 60_exceptions.md R109). -/
theorem submit_illegal {w : Word} {c : IllegalCause} {s : State} (hw : decode w = .illegal c)
    (hb : s.status.busy = false) : submit w s = reported 0x01 s := by
  simp [submit, hb, hw]
  rfl

/-- Settles O3: the well-formedness check by its fields, the unassigned opcodes by their two ranges. -/
theorem illegalWordsAreTheReservedOnes : Obligations.IllegalWordsAreTheReservedOnes := by
  intro w
  refine ⟨?_, illegal_iff_not_wellFormed w, fun c s hw hb => submit_illegal hw hb⟩
  rw [illegal_iff_not_wellFormed, wellFormed_eq_false_iff_fields, not_mem_assignedOpcodes_iff, or_assoc]

/-- Settles O1: the words of each clause have the fields of a command or fail the well-formedness check. -/
theorem decodeFollowsFields : Obligations.DecodeFollowsFields := by
  intro w
  have illegal := fun h => (illegal_iff_not_wellFormed w).mpr ((wellFormed_eq_false_iff_fields w).mpr h)
  refine ⟨fun hres => illegal (.inl hres), fun hres => ⟨?rotr, ?shr, ?plain, ?unassigned⟩,
    fun c s hw hb => submit_illegal hw hb⟩
  case rotr => exact fun hop => decode_eq_command_iff.mpr ⟨hres, rfl, hop⟩
  case shr => exact fun hop => decode_eq_command_iff.mpr ⟨hres, rfl, hop⟩
  case plain =>
    intro p hp hop
    have fields : p.1 = opcode p.2 ∧ 0 = shiftAmount p.2 ∧ p.1 ≠ 0x10 ∧ p.1 ≠ 0x11 := by
      clear hop
      revert p
      decide
    obtain ⟨hopc, hzero, hnotRotr, hnotShr⟩ := fields
    rw [← hop] at hopc hnotRotr hnotShr
    exact ⟨fun hn => illegal (.inr (.inr ⟨hn, hnotRotr, hnotShr⟩)),
      fun hn => decode_eq_command_iff.mpr ⟨hres, hn.trans hzero, hopc⟩⟩
  case unassigned => exact fun hop => illegal (.inr (.inl hop))

/-- Settles O5, by evaluation of the decoder on each word. -/
theorem specWordsDecode : Obligations.SpecWordsDecode := by
  unfold Obligations.SpecWordsDecode
  decide

/-! The opcode map (R56). -/

/-- The mask of a command's row: N is free exactly where the opcode takes one. -/
def rowMask (i : Instr) : Word := if opcode i = 0x10 ∨ opcode i = 0x11 then 0xFFFFE0FF else 0xFFFFFFFF

theorem reservedField_rowMask (i : Instr) : reservedField (rowMask i) = BitVec.allOnes 19 := by
  unfold rowMask
  split <;> decide

theorem opField_rowMask (i : Instr) : opField (rowMask i) = BitVec.allOnes 8 := by
  unfold rowMask
  split <;> decide

theorem shiftField_rowMask (i : Instr) :
    shiftField (rowMask i) = if opcode i = 0x10 ∨ opcode i = 0x11 then 0 else BitVec.allOnes 5 := by
  unfold rowMask
  split <;> decide

/-- A command's row: its pattern is the command's word. -/
def commandRow (i : Instr) : OpcodeRow := ⟨mnemonic i, encode i, rowMask i⟩

/-- One command of each mnemonic, those with N at N = 0. -/
def commandKinds : List Instr :=
  [.nop, .hash, .pad, .init, .loadblk, .compress, .serialize, .rotr 0, .shr 0, .add32]

theorem opcodeMap_eq : opcodeMap = commandKinds.map commandRow := by decide

theorem shiftAmount_of_mem_commandKinds : ∀ i ∈ commandKinds, shiftAmount i = 0 := by decide

theorem exists_commandKind (i : Instr) : ∃ k ∈ commandKinds, mnemonic i = mnemonic k ∧ opcode i = opcode k := by
  cases i with
  | rotr n => exact ⟨.rotr 0, by decide, rfl, rfl⟩
  | shr n => exact ⟨.shr 0, by decide, rfl, rfl⟩
  | _ => exact ⟨_, by decide, rfl, rfl⟩

/-- A command's row selects the well-formed words with its opcode. -/
theorem commandRow_selects_iff {i : Instr} (hzero : shiftAmount i = 0) (w : Word) :
    (commandRow i).selects w = true ↔ CommandWord.wellFormed w = true ∧ opField w = opcode i := by
  have shiftFree : shiftField w &&& shiftField (rowMask i) = 0 ↔
      shiftField w = 0 ∨ opcode i = 0x10 ∨ opcode i = 0x11 := by
    rw [shiftField_rowMask]
    split
    next hop => exact iff_of_true BitVec.and_zero (.inr hop)
    next hop => rw [BitVec.and_allOnes, or_iff_left hop]
  rw [OpcodeRow.selects, commandRow, beq_iff_eq, eq_encode_iff, reservedField_and, shiftField_and, opField_and,
    reservedField_rowMask, opField_rowMask, BitVec.and_allOnes, BitVec.and_allOnes, hzero, shiftFree,
    wellFormed_iff_fields]
  constructor
  · rintro ⟨hres, hn, hop⟩
    rw [hop]
    exact ⟨⟨hres, opcode_mem_assigned i, hn⟩, rfl⟩
  · rintro ⟨⟨hres, -, hn⟩, hop⟩
    rw [hop] at hn
    exact ⟨hres, hn, hop⟩

theorem mnemonic_eq_iff_opcode {i j : Instr} : mnemonic i = mnemonic j ↔ opcode i = opcode j := by
  have kinds : ∀ k ∈ commandKinds, ∀ l ∈ commandKinds, (mnemonic k = mnemonic l ↔ opcode k = opcode l) := by decide
  obtain ⟨k, hk, hik, hopk⟩ := exists_commandKind i
  obtain ⟨l, hl, hjl, hopl⟩ := exists_commandKind j
  rw [hik, hopk, hjl, hopl]
  exact kinds k hk l hl

/-- The words of a command's mnemonic are the well-formed words with its opcode. -/
theorem exists_mnemonic_iff (i : Instr) (w : Word) :
    (∃ j, decode w = .command j ∧ mnemonic j = mnemonic i) ↔
      CommandWord.wellFormed w = true ∧ opField w = opcode i := by
  constructor
  · rintro ⟨j, hj, hm⟩
    obtain ⟨-, -, hop⟩ := fields_of_decode hj
    exact ⟨(wellFormed_iff_decodes w).mpr ⟨j, hj⟩, hop.trans (mnemonic_eq_iff_opcode.mp hm)⟩
  · rintro ⟨hwf, hopi⟩
    obtain ⟨j, hj⟩ := (wellFormed_iff_decodes w).mp hwf
    obtain ⟨-, -, hopj⟩ := fields_of_decode hj
    exact ⟨j, hj, mnemonic_eq_iff_opcode.mpr (hopj.symm.trans hopi)⟩

/-- A row of the map selects the words that decode to a command of its mnemonic. -/
theorem selects_iff_decodes {r : OpcodeRow} (hr : r ∈ opcodeMap) (w : Word) :
    r.selects w = true ↔ ∃ i, decode w = .command i ∧ mnemonic i = r.mnemonic := by
  rw [opcodeMap_eq] at hr
  obtain ⟨i, hi, rfl⟩ := List.mem_map.mp hr
  exact (commandRow_selects_iff (shiftAmount_of_mem_commandKinds i hi) w).trans (exists_mnemonic_iff i w).symm

/-- Settles O2: a row is decided by the decoder, and a word decodes to one command, whose mnemonic one row has. -/
theorem opcodeMapDecides : Obligations.OpcodeMapDecides := by
  refine ⟨fun w r hr => selects_iff_decodes hr w, fun w r q hr hq hrw hqw => ?_⟩
  obtain ⟨i, hi, hri⟩ := (selects_iff_decodes hr w).mp hrw
  obtain ⟨j, hj, hqj⟩ := (selects_iff_decodes hq w).mp hqw
  have hij : i = j := by
    rw [hi] at hj
    exact Decoded.command.inj hj
  have hname : r.mnemonic = q.mnemonic := by rw [← hri, ← hqj, hij]
  have mnemonics : ∀ r ∈ opcodeMap, ∀ q ∈ opcodeMap, r.mnemonic = q.mnemonic → r = q := by decide
  exact mnemonics r hr q hq hname

end Sys2Proof.Machine
end

section
/-! POLL and RUN (30_encoding.md R60): the core's phases between two reads of STATUS, and a command run phase by phase
(44_hash.md R97 to R99). -/

namespace Sys2Proof.Machine

/-! RUN of a command word. -/

theorem runWord_busy (w : Word) {s : State} (hb : s.status.busy = true) :
    runWord w s = .next (raiseCmdError .busy s) :=
  if_pos hb

theorem runWord_illegal {w : Word} {c : IllegalCause} {s : State} (hw : decode w = .illegal c)
    (hb : s.status.busy = false) : runWord w s = .next (reported 0x01 s) := by
  simp [runWord, hb, hw]
  rfl

/-- A command word runs the command, whose own first check is BUSY. -/
theorem runWord_command {w : Word} {i : Instr} (hw : decode w = .command i) (s : State) : runWord w s = exec i s := by
  cases hb : s.status.busy with
  | true => rw [runWord_busy w hb, exec_eq_runCommand, runCommand_busy i _ hb]
  | false => simp [runWord, hb, hw]

/-- A command word keeps its value as a number of the opcode table. -/
theorem tableWord_toNat (w : Word) : tableWord 32 w.toNat = w := by
  rw [tableWord, Nat.mod_eq_of_lt w.isLt, BitVec.ofNat_toNat, BitVec.setWidth_eq]

/-- Settles O33: the step performs RUN, which is `exec` of the decoded command. -/
theorem stepRunsTheCommand : Obligations.StepRunsTheCommand := by
  have run : ∀ (w : Word) (i : Instr) (s : State) (rest : List Move), decode w = .command i →
      step { s with script := .run w :: rest } = exec i { s with script := .poll :: rest } :=
    fun w i s rest h => (step_move (.run w) s rest).trans (runWord_command h _)
  refine ⟨run, fun i s => ?_⟩
  rw [State.withFetchWord, tableWord_toNat]
  exact run (encode i) i s s.script (decode_encode i)

/-! The core does not look at the host's moves to come. -/

/-- `s` with the moves `l` to come. -/
def withScript (l : List Move) (s : State) : State := { s with script := l }

theorem withScript_of_script {l : List Move} {s : State} (h : s.script = l) : withScript l s = s := by
  subst h
  rfl

theorem drawEight_withScript (l : List Move) (s : State) (k : Nat) :
    drawEight (withScript l s) k = drawEight s k := by
  unfold drawEight
  rfl

theorem drawResults_withScript (l : List Move) (s : State) :
    drawResults (withScript l s) = withScript l (drawResults s) := by
  simp only [drawResults, drawEight_withScript]
  rfl

theorem complete_withScript (l : List Move) (s : State) : complete (withScript l s) = withScript l (complete s) := by
  simp only [complete, spoilResults, drawResults_withScript, apply_ite toIdle, apply_ite (withScript l)]
  rfl

theorem enterIfHash_withScript (p : Phase) (l : List Move) (s : State) :
    enterIfHash p (withScript l s) = withScript l (enterIfHash p s) := by
  simp only [enterIfHash, complete_withScript, apply_ite (withScript l)]
  rfl

theorem aluAction_withScript (l : List Move) (s : State) :
    aluAction (withScript l s) = withScript l (aluAction s) := by
  simp only [aluAction, apply_ite (withScript l)]
  rfl

theorem coreStep_withScript (l : List Move) (s : State) : coreStep (withScript l s) = withScript l (coreStep s) := by
  have hseq : (withScript l s).seq = s.seq := rfl
  unfold coreStep
  rw [hseq]
  cases s.seq with
  | idle => rfl
  | nop => exact complete_withScript l s
  | pad => exact enterIfHash_withScript .init l (padAction s)
  | init => exact enterIfHash_withScript .test l (initAction s)
  | test => simp only [apply_ite (withScript l)]; rfl
  | load => exact enterIfHash_withScript .sched l (loadAction s)
  | sched => rfl
  | expand i => simp only [apply_ite (withScript l)]; rfl
  | seed => rfl
  | round i => simp only [apply_ite (withScript l)]; rfl
  | accum => exact enterIfHash_withScript .test l (accumAction s)
  | ser => exact complete_withScript l (serAction s)
  | alu => exact (congrArg complete (aluAction_withScript l s)).trans (complete_withScript l (aluAction s))

/-! POLL. -/

theorem pollStatus_busy {s : State} (hb : s.status.busy = true) : pollStatus s = (coreStep s).pushMove .poll :=
  if_pos hb

theorem pollStatus_idle {s : State} (hb : s.status.busy = false) :
    pollStatus s = { s with readLog := (0x01, statusWord s.status) :: s.readLog } := by
  have hread : pollStatus s = hostRead 0x01 s := by simp [pollStatus, hb]
  rw [hread, hostRead, readValue_idle hb, readDraws_idle hb]
  rfl

/-- While BUSY = 1 a step of POLL is one phase of the core, and POLL stays the next move. -/
theorem step_poll_busy (rest : List Move) {s : State} (hb : s.status.busy = true) :
    step (withScript (.poll :: rest) s) = .next (withScript (.poll :: rest) (coreStep s)) :=
  calc step (withScript (.poll :: rest) s)
      = .next (pollStatus (withScript rest s)) := rfl
    _ = .next ((withScript rest (coreStep s)).pushMove .poll) := by
      rw [pollStatus_busy (s := withScript rest s) hb, coreStep_withScript]

/-- Settles O34: a phase and POLL again while BUSY = 1, an exact read of STATUS at BUSY = 0. -/
theorem pollWaitsForCompletion : Obligations.PollWaitsForCompletion :=
  fun s rest => ⟨step_poll_busy rest, fun hb => congrArg Host.Outcome.next (pollStatus_idle (s := withScript rest s) hb)⟩

end Sys2Proof.Machine
end

section
/-! The sequencer reaches the meaning of a command (44_hash.md R97 to R99), and so RUN is CMD followed by POLL
(30_encoding.md R60). -/

namespace Sys2Proof.Machine

/-- `n` phases lead from `s` to `t`, with BUSY = 1 before each. -/
structure BusyRun (n : Nat) (s t : State) : Prop where
  ends : coreRun n s = t
  busy : ∀ k < n, (coreRun k s).status.busy = true

namespace BusyRun

theorem refl (s : State) : BusyRun 0 s s := ⟨rfl, nofun⟩

theorem one {s t : State} (hb : s.status.busy = true) (h : coreStep s = t) : BusyRun 1 s t where
  ends := h
  busy k hk := by
    rw [Nat.lt_one_iff.mp hk]
    exact hb

theorem trans {m n : Nat} {s t u : State} (r : BusyRun m s t) (q : BusyRun n t u) : BusyRun (m + n) s u where
  ends := by rw [coreRun_add, r.ends, q.ends]
  busy k hk := by
    rcases Nat.lt_or_ge k m with hlt | hge
    · exact r.busy k hlt
    · obtain ⟨d, rfl⟩ := Nat.exists_eq_add_of_le hge
      rw [coreRun_add, r.ends]
      exact q.busy d (Nat.lt_of_add_lt_add_left hk)

theorem step {n : Nat} {s t : State} (hb : s.status.busy = true) (r : BusyRun n (coreStep s) t) : BusyRun (n + 1) s t :=
  Nat.add_comm 1 n ▸ (one hb rfl).trans r

theorem tail {n : Nat} {s t : State} (r : BusyRun (n + 1) s t) : BusyRun n (coreStep s) t where
  ends := r.ends
  busy k hk := r.busy (k + 1) (Nat.succ_lt_succ hk)

end BusyRun

/-! The phases of a compression. -/

/-- (P_EXPAND, i) to (P_EXPAND, 63), R78. -/
theorem busyRun_expand (n : Nat) {i : Fin 64} (hi : i.val + n = 63) {s : State} (hseq : s.seq = .expand i)
    (hb : s.status.busy = true) :
    BusyRun (n + 1) s (enter .seed { s with w := expandFrom (n + 1) i s.w }) := by
  induction n generalizing i s with
  | zero =>
    refine .one hb ?_
    have hlast : ¬ i < 63 := Nat.not_lt_of_ge (Nat.le_of_eq hi.symm)
    rw [coreStep_expand hseq, if_neg hlast]
    rfl
  | succ n ih =>
    have hmore : i.val < 63 := by omega
    have hnext : (i + 1).val + n = 63 := by
      rw [Fin.val_add_one_of_lt (n := 63) hmore]
      omega
    refine .step hb ?_
    rw [coreStep_expand hseq, if_pos (show i < 63 from hmore)]
    exact ih hnext (s := enter (.expand (i + 1)) (expandAction i s)) rfl hb

/-- (P_ROUND, i) to (P_ROUND, 63), R80. -/
theorem busyRun_rounds (n : Nat) {i : Fin 64} (hi : i.val + n = 63) {s : State} (hseq : s.seq = .round i)
    (hb : s.status.busy = true) :
    BusyRun (n + 1) s (enter .accum { s with work := roundsFrom (n + 1) i s.w s.work }) := by
  induction n generalizing i s with
  | zero =>
    refine .one hb ?_
    have hlast : ¬ i < 63 := Nat.not_lt_of_ge (Nat.le_of_eq hi.symm)
    rw [coreStep_round hseq, if_neg hlast]
    rfl
  | succ n ih =>
    have hmore : i.val < 63 := by omega
    have hnext : (i + 1).val + n = 63 := by
      rw [Fin.val_add_one_of_lt (n := 63) hmore]
      omega
    refine .step hb ?_
    rw [coreStep_round hseq, if_pos (show i < 63 from hmore)]
    exact ih hnext (s := enter (.round (i + 1)) (roundAction i s)) rfl hb

/-- A compression up to P_ACCUM: the schedule and the last working state stand in W and a..h. -/
def scheduled (s : State) : State :=
  { s with w := schedule s.block s.w, work := roundsOf (schedule s.block s.w) s.h }

/-- P_SCHED to (P_ROUND, 63): one load, 48 expansions, the seed, 64 rounds. -/
theorem busyRun_scheduled {s : State} (hseq : s.seq = .sched) (hb : s.status.busy = true) :
    BusyRun 114 s (enter .accum (scheduled s)) := by
  have load : BusyRun 1 s (enter (.expand 16) (schedAction s)) := .one hb (coreStep_sched hseq)
  have expand : BusyRun 48 (enter (.expand 16) (schedAction s)) (enter .seed { s with w := schedule s.block s.w }) := by
    unfold schedule
    exact busyRun_expand 47 (i := 16) rfl rfl hb
  have seed : BusyRun 1 (enter .seed { s with w := schedule s.block s.w })
      (enter (.round 0) (seedAction { s with w := schedule s.block s.w })) := .one hb (coreStep_seed rfl)
  have rounds : BusyRun 64 (enter (.round 0) (seedAction { s with w := schedule s.block s.w }))
      (enter .accum (scheduled s)) := by
    unfold scheduled roundsOf
    exact busyRun_rounds 63 (i := 0) rfl rfl hb
  exact ((load.trans expand).trans seed).trans rounds

/-- P_SCHED to P_ACCUM, when a HASH goes on. -/
theorem busyRun_compressBlock {s : State} (hseq : s.seq = .sched) (hb : s.status.busy = true)
    (hhash : runsHash s = true) : BusyRun 115 s (enter .test (compressAction s)) := by
  refine (busyRun_scheduled hseq hb).trans (.one hb ?_)
  rw [coreStep_accum rfl]
  exact if_pos hhash

/-- The block loop of a HASH from P_TEST to P_SER, with `n` blocks to come: a test, a load and 115 phases a block, and the
last test (44_hash.md R97, R101). -/
theorem busyRun_hashBlocks (n : Nat) {s : State} (hb : s.status.busy = true) (hhash : runsHash s = true)
    (hn : s.blkidx.toNat + n = s.nblk.toNat) :
    BusyRun (117 * n + 1) (enter .test s) (enter .ser (hashBlocks n s)) := by
  induction n generalizing s with
  | zero =>
    have hend : ¬ s.blkidx < s.nblk := by rw [BitVec.lt_def]; omega
    refine .one hb ?_
    rw [coreStep_test rfl]
    exact if_neg hend
  | succ n ih =>
    have hmore : s.blkidx < s.nblk := by rw [BitVec.lt_def]; omega
    have hnext : (s.blkidx + 1).toNat + n = s.nblk.toNat := by bv_omega
    have test : BusyRun 1 (enter .test s) (enter .load s) := by
      refine .one hb ?_
      rw [coreStep_test rfl]
      exact if_pos hmore
    have load : BusyRun 1 (enter .load s) (enter .sched (loadAction s)) := by
      refine .one hb ?_
      rw [coreStep_load rfl]
      exact if_pos hhash
    have block : BusyRun 115 (enter .sched (loadAction s)) (enter .test (compressAction (loadAction s))) :=
      busyRun_compressBlock (s := enter .sched (loadAction s)) rfl hb hhash
    have rest := ih (s := compressAction (loadAction s)) hb hhash hnext
    have hcount : 117 * (n + 1) + 1 = 1 + 1 + 115 + (117 * n + 1) := by omega
    rw [hcount, hashBlocks, if_pos hmore]
    exact ((test.trans load).trans block).trans rest

/-! A whole command. -/

theorem busyRun_compress (s : State) :
    BusyRun 115 (accept .compress s) (toIdle (compressAction (accept .compress s))) := by
  refine (busyRun_scheduled rfl rfl).trans (.one rfl ?_)
  rw [coreStep_accum rfl]
  rfl

/-- A HASH before its first test. -/
def hashStarted (s : State) : State := initAction (padAction (accept .hash s))

/-- P_PAD and P_INIT of a HASH. -/
theorem busyRun_hashStarted (s : State) : BusyRun 2 (accept .hash s) (enter .test (hashStarted s)) := by
  have pad : BusyRun 1 (accept .hash s) (enter .init (padAction (accept .hash s))) := .one rfl (coreStep_pad rfl)
  have init : BusyRun 1 (enter .init (padAction (accept .hash s))) (enter .test (hashStarted s)) :=
    .one rfl (coreStep_init rfl)
  exact pad.trans init

theorem busyRun_hash {s : State} (hc : check .hash s = none) :
    BusyRun (phaseCount .hash s) (accept .hash s) (toIdle (hashAction (accept .hash s))) := by
  obtain ⟨hmax, -⟩ := (checkLength_eq_none s).mp hc
  have hnblk : (hashStarted s).nblk.toNat = blockCount s.len.toNat := toNat_blockCount hmax
  have blocks := busyRun_hashBlocks (blockCount s.len.toNat) (s := hashStarted s) rfl rfl
    (hnblk ▸ Nat.zero_add _)
  have ser : BusyRun 1 (enter .ser (hashBlocks (blockCount s.len.toNat) (hashStarted s)))
      (toIdle (hashAction (accept .hash s))) := by
    obtain ⟨k, b, h, w, v, e⟩ := hashBlocks_eq (blockCount s.len.toNat) (s := hashStarted s) rfl
    have haction : hashAction (accept .hash s) = serAction (hashBlocks (hashStarted s).nblk.toNat (hashStarted s)) := rfl
    rw [haction, hnblk, e]
    exact .one rfl (coreStep_ser rfl)
  exact ((busyRun_hashStarted s).trans blocks).trans ser

/-- An accepted command is busy for the phases R97 counts, and they end where its meaning says. -/
theorem busyRun_accept {i : Instr} {s : State} (hc : check i s = none) :
    BusyRun (phaseCount i s) (accept i s) (toIdle (actionOf i (accept i s))) := by
  cases i with
  | hash => exact busyRun_hash hc
  | compress => exact busyRun_compress s
  | _ => exact .one rfl rfl

/-! RUN, CMD and POLL. -/

theorem submit_busy (w : Word) {s : State} (hb : s.status.busy = true) : submit w s = raiseCmdError .busy s :=
  if_pos hb

theorem submit_rejected {w : Word} {i : Instr} {e : ErrCode} {s : State} (hw : decode w = .command i)
    (hb : s.status.busy = false) (hc : check i s = some e) : submit w s = raiseCmdError e s := by
  simp [submit, hb, hw, hc]

theorem submit_accepted {w : Word} {i : Instr} {s : State} (hw : decode w = .command i)
    (hb : s.status.busy = false) (hc : check i s = none) : submit w s = accept i s := by
  simp [submit, hb, hw, hc]

/-- The one transition of RUN ends where phases lead from the submission; a rejection needs none. -/
theorem runWord_eq_busyRun_submit (w : Word) (s : State) :
    ∃ n t, runWord w s = .next t ∧ BusyRun n (submit w s) t := by
  cases hb : s.status.busy with
  | true =>
    rw [runWord_busy w hb, submit_busy w hb]
    exact ⟨0, _, rfl, .refl _⟩
  | false =>
    cases hw : decode w with
    | illegal c =>
      rw [runWord_illegal hw hb, submit_illegal hw hb]
      exact ⟨0, _, rfl, .refl _⟩
    | command i =>
      rw [runWord_command hw]
      cases hc : check i s with
      | some e =>
        rw [exec_eq_runCommand, runCommand_rejected i _ hb hc, submit_rejected hw hb hc]
        exact ⟨0, _, rfl, .refl _⟩
      | none =>
        rw [exec_accepted hb hc, submit_accepted hw hb hc]
        exact ⟨_, _, rfl, busyRun_accept hc⟩

/-- While a command runs, every step of POLL is one of its phases. -/
theorem BusyRun.run_poll {n : Nat} {s t : State} (r : BusyRun n s t) {rest : List Move}
    (hs : s.script = .poll :: rest) : core.run n s = .next t := by
  induction n generalizing s with
  | zero => exact congrArg Host.Outcome.next r.ends
  | succ n ih =>
    obtain ⟨-, -, -, -, hscript, -, -⟩ := coreStep_hostSide s
    have hs' := hscript.trans hs
    have hstep := step_poll_busy rest (r.busy 0 n.succ_pos)
    rw [coreRun_zero, withScript_of_script hs, withScript_of_script hs'] at hstep
    rw [run_next core n s _ hstep]
    exact ih r.tail hs'

theorem submit_script (w : Word) (s : State) : (submit w s).script = s.script := by
  unfold submit
  split
  · rfl
  · split
    · rfl
    · split <;> rfl

/-- Settles O37: the first step submits the word, the others are the phases of the accepted command, one a poll. -/
theorem runIsSubmitThenPoll : Obligations.RunIsSubmitThenPoll := by
  intro w s rest
  obtain ⟨n, t, hrun, phases⟩ := runWord_eq_busyRun_submit w (withScript (.poll :: rest) s)
  exact ⟨n, t, hrun, (run_next core n _ _ rfl).trans (phases.run_poll (submit_script ..))⟩

end Sys2Proof.Machine
end

section
/-! The preprocessor (40_preprocessor.md): the padded message as data (R61 to R66), then PAD and LOADBLK (R67, R68). -/

namespace Sys2Proof.Machine

/-! The zero count and the block count (R62, R63). -/

/-- The padding fills the last block. -/
theorem length_add_zeroCount (n : Nat) : n + 1 + zeroCount n + 8 = 64 * blockCount n := by
  unfold zeroCount blockCount
  omega

theorem zeroCount_lt (n : Nat) : zeroCount n < 64 := Nat.mod_lt _ (by decide)

/-- Settles O13: counts that fill a block differ by multiples of 64, and K is below 64. -/
theorem zeroCountIsLeast : Obligations.ZeroCountIsLeast := by
  intro n
  have hfill := length_add_zeroCount n
  have hlt := zeroCount_lt n
  have hleast (k : Nat) (hk : (n + 1 + k + 8) % 64 = 0) : zeroCount n ≤ k := by omega
  exact ⟨by omega, by omega, by omega, hleast⟩

/-! The padded message, part by part (R61). -/

@[simp] theorem length_bytes64 (v : DWord) : (bytes64 v).length = 8 := by simp [bytes64]

theorem bytes64_getElem? (v : DWord) {j : Nat} (hj : j < 8) : (bytes64 v)[j]? = some (byteOfDWord v j) := by
  simp [bytes64, hj]

theorem length_pad (m : List Byte) : (pad m).length = m.length + 1 + zeroCount m.length + 8 := by
  simp only [pad, List.length_append, List.length_singleton, List.length_replicate, length_bytes64]

theorem pad_eq_message_append (m : List Byte) :
    pad m = m ++ 0x80 :: (List.replicate (zeroCount m.length) 0x00 ++ bytes64 (BitVec.ofNat 64 (8 * m.length))) := by
  simp [pad]

theorem pad_getElem?_message {m : List Byte} {k : Nat} (hk : k < m.length) : (pad m)[k]? = m[k]? := by
  rw [pad_eq_message_append, List.getElem?_append_left hk]

theorem pad_getElem?_marker (m : List Byte) : (pad m)[m.length]? = some 0x80 := by
  rw [pad_eq_message_append, List.getElem?_append_right (Nat.le_refl _), Nat.sub_self, List.getElem?_cons_zero]

theorem pad_getElem?_zero {m : List Byte} {k : Nat} (hk : m.length < k) (hend : k < 64 * blockCount m.length - 8) :
    (pad m)[k]? = some 0x00 := by
  have hfill := length_add_zeroCount m.length
  obtain ⟨j, rfl⟩ := Nat.exists_eq_add_of_lt hk
  have hj : j < zeroCount m.length := by omega
  rw [pad_eq_message_append, List.getElem?_append_right (by omega), Nat.add_assoc, Nat.add_sub_cancel_left,
    List.getElem?_cons_succ, List.getElem?_append_left (by rwa [List.length_replicate]),
    List.getElem?_replicate_of_lt hj]

/-- The length field ends the last block. -/
theorem pad_drop_lengthField (m : List Byte) :
    (pad m).drop (64 * blockCount m.length - 8) = bytes64 (BitVec.ofNat 64 (8 * m.length)) := by
  have hfill := length_add_zeroCount m.length
  refine List.drop_left' ?_
  simp only [List.length_append, List.length_replicate, List.length_singleton]
  omega

theorem pad_getElem?_lengthField {m : List Byte} {k : Nat} (hk : 64 * blockCount m.length - 8 ≤ k)
    (hend : k < 64 * blockCount m.length) :
    (pad m)[k]? =
      some (byteOfDWord (BitVec.ofNat 64 (8 * m.length)) (k - (64 * blockCount m.length - 8))) := by
  rw [← bytes64_getElem? _ (by omega), ← pad_drop_lengthField, List.getElem?_drop, Nat.add_sub_cancel' hk]

/-- Settles O14: the parts of the padded message add up, and they fill the last block. -/
theorem paddedLengthIsWholeBlocks : Obligations.PaddedLengthIsWholeBlocks := by
  refine ⟨fun m => ⟨length_pad m, (length_pad m).trans (length_add_zeroCount _)⟩, fun n hn => ?_⟩
  unfold blockCount
  omega

/-- Settles O16: the shape part by part, and the test zones by evaluation. -/
theorem paddedMessageShape : Obligations.PaddedMessageShape := by
  refine ⟨fun m => ?_, by decide⟩
  have hblocks : (pad m).length % 64 = 0 := by
    rw [length_pad, length_add_zeroCount, Nat.mul_mod_right]
  have htake : (pad m).take m.length = m := by
    rw [pad_eq_message_append, List.take_left]
  have hmarker : m.length / 64 + 1 = blockCount m.length ∨ m.length / 64 + 2 = blockCount m.length := by
    unfold blockCount
    omega
  exact ⟨hblocks, htake, pad_getElem?_marker m, fun k => pad_getElem?_zero, pad_drop_lengthField m, hmarker⟩

/-! The padded message byte by byte (R64). -/

@[simp] theorem length_message (m : MsgMemory) (n : Nat) : (m.message n).length = n := by simp [MsgMemory.message]

theorem message_getElem? (m : MsgMemory) {n k : Nat} (hk : k < n) : (m.message n)[k]? = some (m.readByte k) := by
  simp [MsgMemory.message, hk]

/-- Settles O15: each case of R64's formula is one part of the padded message. -/
theorem padByteIsByteOfPaddedMessage : Obligations.PadByteIsByteOfPaddedMessage := by
  intro m n k hk
  have hlen := length_message m n
  unfold padByte
  split
  case isTrue hmsg => rw [pad_getElem?_message (by rwa [hlen]), message_getElem? m hmsg]
  case isFalse hmsg =>
    split
    case isTrue hmarker =>
      subst hmarker
      simpa only [length_message] using pad_getElem?_marker (m.message k)
    case isFalse hmarker =>
      split
      case isTrue hzero => exact pad_getElem?_zero (by omega) (by rwa [hlen])
      case isFalse hzero =>
        rw [pad_getElem?_lengthField (by rw [hlen]; omega) (by rwa [hlen]), hlen]

/-- A byte of the padded message depends on MSG only at its own address, and only below the message length. -/
theorem padByte_congr {m m' : MsgMemory} {n k : Nat} (h : k < n → m.readByte k = m'.readByte k) (blocks : Nat) :
    padByte m n blocks k = padByte m' n blocks k := by
  unfold padByte
  split
  · next hk => exact h hk
  · rfl

/-- A padded block depends on MSG only at its own addresses below the message length. -/
theorem paddedBlock_congr_own {m m' : MsgMemory} {n j : Nat}
    (h : ∀ k, 64 * j ≤ k → k < 64 * j + 64 → k < n → m.readByte k = m'.readByte k) (blocks : Nat) :
    paddedBlock m n blocks j = paddedBlock m' n blocks j := by
  have hbyte (t : Fin 64) : padByte m n blocks (64 * j + t.val) = padByte m' n blocks (64 * j + t.val) :=
    padByte_congr (h _ (by omega) (by omega)) blocks
  simp only [paddedBlock, hbyte]

/-! A command that is not accepted (60_exceptions.md R106). -/

theorem exec_busy (i : Instr) {s : State} (hb : s.status.busy = true) : exec i s = .next (raiseCmdError .busy s) := by
  rw [exec_eq_runCommand, runCommand_busy i _ hb]

theorem exec_rejected {i : Instr} {e : ErrCode} {s : State} (hb : s.status.busy = false) (hc : check i s = some e) :
    exec i s = .next (raiseCmdError e s) := by
  rw [exec_eq_runCommand, runCommand_rejected i _ hb hc]

/-! The checks of PAD and LOADBLK, failing (60_exceptions.md R110, R111). -/

theorem checkLength_lenRange {s : State} (h : maxLen < s.len.toNat) : checkLength s = some .lenRange := if_pos h

theorem checkLength_lenCap {s : State} (hmax : s.len.toNat ≤ maxLen) (h : s.msg.cap < s.len.toNat) :
    checkLength s = some .lenCap := by
  rw [checkLength, if_neg (Nat.not_lt.mpr hmax), if_pos h]

theorem check_loadblk_notPadded {s : State} (h : s.status.padded = false) : check .loadblk s = some .notPadded :=
  if_pos h

theorem check_loadblk_noMoreBlocks {s : State} (hpad : s.status.padded = true) (h : s.blkidx = s.nblk) :
    check .loadblk s = some .noMoreBlocks := by
  simp [check, hpad, h]

/-! PAD and LOADBLK. -/

/-- Settles O42: a length in range and within MSG_CAP passes both checks, and the action of PAD uses the latched
length. -/
theorem padStartsAPadding : Obligations.PadStartsAPadding :=
  ⟨decode_encode .pad, fun s hb =>
    ⟨fun hrange => exec_rejected (i := .pad) hb (checkLength_lenRange hrange),
     fun hmax hcap => exec_rejected (i := .pad) hb (checkLength_lenCap hmax hcap),
     fun hmax hcap => exec_accepted hb ((checkLength_eq_none s).mpr ⟨hmax, hcap⟩)⟩⟩

/-- Settles O43: the two checks in their order, and the action of LOADBLK with its block byte by byte. -/
theorem loadblkLoadsTheNextBlock : Obligations.LoadblkLoadsTheNextBlock := by
  refine ⟨decode_encode .loadblk, fun s hb => ⟨?_, ?_, fun hpad hmore => ?_⟩⟩
  · exact fun hpad => exec_rejected hb (check_loadblk_notPadded hpad)
  · exact fun hpad hlast => exec_rejected hb (check_loadblk_noMoreBlocks hpad hlast)
  · rw [← paddedBlock]
    exact exec_accepted hb ((check_loadblk_eq_none s).mpr ⟨hpad, hmore⟩)

/-- LOADBLK's action takes from MSG only the bytes of its own block below PLEN. -/
theorem loadAction_with_msg {s : State} {m : MsgMemory}
    (h : ∀ k, 64 * s.blkidx.toNat ≤ k → k < 64 * s.blkidx.toNat + 64 → k < s.plen.toNat →
      m.readByte k = s.msg.readByte k) :
    loadAction { s with msg := m } = { loadAction s with msg := m } := by
  simp only [loadAction, paddedBlock_congr_own h]

/-- Settles O44: the checks do not depend on MSG, and the action only as far as `loadAction_with_msg` says. -/
theorem loadblkReadsOnlyTheMessage : Obligations.LoadblkReadsOnlyTheMessage := by
  intro s m h
  cases hb : s.status.busy with
  | true => exact ⟨_, exec_busy _ hb, exec_busy _ hb⟩
  | false =>
    cases hc : check .loadblk s with
    | some e => exact ⟨_, exec_rejected hb hc, exec_rejected hb hc⟩
    | none =>
      have hother : exec .loadblk { s with msg := m } = .next (toIdle (loadAction { accept .loadblk s with msg := m })) :=
        exec_accepted hb hc
      rw [loadAction_with_msg (s := accept .loadblk s) h] at hother
      exact ⟨_, exec_accepted hb hc, hother⟩

end Sys2Proof.Machine
end

section
/-! The compressor (41_compressor.md): the word functions bit by bit (R71 to R76), the constant tables (R69, R70), the
schedule and the rounds (R77 to R82), then INIT and COMPRESS (R83, R84). -/

namespace Sys2Proof.Machine

/-! The word functions (R71 to R76). -/

/-- Below 32 the rotation of 42_primitives.md R85 is the library's. -/
theorem rotr_eq_rotateRight (x : Word) {n : Nat} (hn : n < 32) : rotr x n = x.rotateRight n := by
  rw [rotr, BitVec.rotateRight_def, Nat.mod_eq_of_lt hn]

theorem getLsbD_rotr (x : Word) {n j : Nat} (hn : n < 32) (hj : j < 32) :
    (rotr x n).getLsbD j = x.getLsbD ((j + n) % 32) := by
  rw [rotr_eq_rotateRight x hn, BitVec.getLsbD_rotateRight, Nat.mod_eq_of_lt hn]
  by_cases hlow : j < 32 - n
  · have hbit : (j + n) % 32 = n + j := by omega
    simp [hlow, hbit]
  · have hbit : (j + n) % 32 = j - (32 - n) := by omega
    simp [hlow, hj, hbit]

theorem getLsbD_shr (x : Word) (n j : Nat) : (shr x n).getLsbD j = x.getLsbD (j + n) := by
  rw [shr, BitVec.getLsbD_ushiftRight, Nat.add_comm]

/-- Settles O9: both functions are bitwise, and over three bits they are the choice and the majority. -/
theorem chooseAndMajorityBits : Obligations.ChooseAndMajorityBits := by
  intro x y z j hj
  have choice : ∀ a b c : Bool, ((a && b) ^^ (!a && c)) = if a then b else c := by decide
  have majority : ∀ a b c : Bool,
      ((a && b) ^^ (a && c) ^^ (b && c)) = decide (2 ≤ a.toNat + b.toNat + c.toNat) := by decide
  constructor
  · rw [← choice]
    simp [ch, hj]
  · rw [← majority]
    simp [maj]

/-- Settles O10: an exclusive or is bitwise, and each of its copies moves its bits by a constant amount. -/
theorem wordFunctionsBitByBit : Obligations.WordFunctionsBitByBit := by
  intro x j hj
  have rotated {n : Nat} (hn : n < 32) : (rotr x n).getLsbD j = x.getLsbD ((j + n) % 32) := getLsbD_rotr x hn hj
  refine ⟨?_, ?_, ?_, ?_⟩
  · simp only [schedS0, BitVec.getLsbD_xor, getLsbD_shr, rotated, Nat.reduceLT]
  · simp only [schedS1, BitVec.getLsbD_xor, getLsbD_shr, rotated, Nat.reduceLT]
  · simp only [roundS1, BitVec.getLsbD_xor, rotated, Nat.reduceLT]
  · simp only [roundS0, BitVec.getLsbD_xor, rotated, Nat.reduceLT]

/-! The constant tables (R69, R70). -/

/-- The first 64 primes. -/
def firstPrimes : List Nat :=
  [2, 3, 5, 7, 11, 13, 17, 19, 23, 29, 31, 37, 41, 43, 47, 53, 59, 61, 67, 71, 73, 79, 83, 89, 97, 101, 103, 107, 109,
   113, 127, 131, 137, 139, 149, 151, 157, 163, 167, 173, 179, 181, 191, 193, 197, 199, 211, 223, 227, 229, 233, 239,
   241, 251, 257, 263, 269, 271, 277, 281, 283, 293, 307, 311]

/-- Trial division up to 311 leaves them. -/
theorem filter_range_eq_firstPrimes :
    ((List.range 312).filter fun p => decide (2 ≤ p) && (List.range p).all fun d => decide (d < 2) || p % d != 0) =
      firstPrimes := by
  decide +kernel

theorem iv_is_fractional_square_root (i : Fin 8) :
    ∃ q : Fin 8, (q.val * 2 ^ 32 + iv[i].toNat) ^ 2 ≤ firstPrimes.getD i.val 0 * 2 ^ 64 ∧
      firstPrimes.getD i.val 0 * 2 ^ 64 < (q.val * 2 ^ 32 + iv[i].toNat + 1) ^ 2 := by
  decide +kernel +revert

theorem roundK_is_fractional_cube_root (i : Fin 64) :
    ∃ q : Fin 8, (q.val * 2 ^ 32 + (roundK i).toNat) ^ 3 ≤ firstPrimes.getD i.val 0 * 2 ^ 96 ∧
      firstPrimes.getD i.val 0 * 2 ^ 96 < (q.val * 2 ^ 32 + (roundK i).toNat + 1) ^ 3 := by
  decide +kernel +revert

/-- Settles O11: the primes are written out first, then each constant is compared with the root of its prime. -/
theorem constantsAreRootsOfPrimes : Obligations.ConstantsAreRootsOfPrimes := by
  unfold Obligations.ConstantsAreRootsOfPrimes
  rw [filter_range_eq_firstPrimes]
  exact ⟨iv_is_fractional_square_root, roundK_is_fractional_cube_root⟩

/-! The schedule and the rounds, index by index. -/

/-- `F n i` that performs `g` at the n indices from i on, the first index first, performs it at the last index last. -/
theorem run_succ_last {α : Type} {g : Fin 64 → α → α} {F : Nat → Fin 64 → α → α} (hzero : ∀ i x, F 0 i x = x)
    (hsucc : ∀ n i x, F (n + 1) i x = F n (i + 1) (g i x)) (n : Nat) (i : Fin 64) (x : α) :
    F (n + 1) i x = g (i + Fin.ofNat 64 n) (F n i x) := by
  induction n generalizing i x with
  | zero =>
    rw [hsucc, hzero, hzero]
    exact congrArg (g · x) (Fin.add_zero i).symm
  | succ n ih =>
    have hlast : i + 1 + Fin.ofNat 64 n = i + Fin.ofNat 64 (n + 1) := by
      ext
      simp only [Fin.val_add, Fin.val_ofNat, Fin.val_one]
      omega
    rw [hsucc, ih, hlast, ← hsucc]

theorem expandFrom_succ (n : Nat) (i : Fin 64) (w : Vector Word 64) :
    expandFrom (n + 1) i w = expandAt (expandFrom n i w) (i + Fin.ofNat 64 n) :=
  run_succ_last (g := fun i w => expandAt w i) (fun _ _ => rfl) (fun _ _ _ => rfl) n i w

theorem roundsFrom_succ (n : Nat) (i : Fin 64) (w : Vector Word 64) (v : Work) :
    roundsFrom (n + 1) i w v = roundAt w (i + Fin.ofNat 64 n) (roundsFrom n i w v) :=
  run_succ_last (F := fun n i => roundsFrom n i w) (g := roundAt w) (fun _ _ => rfl) (fun _ _ _ => rfl) n i v

theorem expandAt_getElem_self (w : Vector Word 64) (i : Fin 64) : (expandAt w i)[i] = expandWord w i := by
  simp [expandAt]

theorem expandAt_getElem_of_ne (w : Vector Word 64) {i t : Fin 64} (h : t ≠ i) : (expandAt w i)[t] = w[t] := by
  have hval : i.val ≠ t.val := fun e => h (Fin.ext e.symm)
  simp [expandAt, hval]

/-- W[t] is computed from earlier words, so writing W[t] or a later word does not change its value (R78). -/
theorem expandWord_expandAt (w : Vector Word 64) {i t : Fin 64} (ht : 16 ≤ t.val) (hti : t.val ≤ i.val) :
    expandWord (expandAt w i) t = expandWord w t := by
  simp only [expandWord, expandAt_getElem_of_ne w (show t - 16 ≠ i by omega),
    expandAt_getElem_of_ne w (show t - 15 ≠ i by omega), expandAt_getElem_of_ne w (show t - 7 ≠ i by omega),
    expandAt_getElem_of_ne w (show t - 2 ≠ i by omega)]

/-- After n steps of the expansion W[0..15] is as before, and the n words from 16 on meet the recurrence of R78. -/
theorem expandFrom_sixteen {n : Nat} (hn : n ≤ 48) (w : Vector Word 64) (t : Fin 64) :
    (t.val < 16 → (expandFrom n 16 w)[t] = w[t]) ∧
    (16 ≤ t.val → t.val < 16 + n → (expandFrom n 16 w)[t] = expandWord (expandFrom n 16 w) t) := by
  induction n with
  | zero => exact ⟨fun _ => rfl, fun _ _ => by omega⟩
  | succ n ih =>
    obtain ⟨hlow, hhigh⟩ := ih (by omega)
    have hi : ((16 : Fin 64) + Fin.ofNat 64 n).val = 16 + n := by
      simp only [Fin.val_add, Fin.val_ofNat]
      omega
    rw [expandFrom_succ]
    generalize (16 : Fin 64) + Fin.ofNat 64 n = i at hi
    refine ⟨fun ht => ?_, fun ht hend => ?_⟩
    · rw [expandAt_getElem_of_ne _ (by omega), hlow ht]
    · rw [expandWord_expandAt _ ht (by omega)]
      by_cases hlast : t = i
      · rw [hlast, expandAt_getElem_self]
      · rw [expandAt_getElem_of_ne _ hlast, hhigh ht (by omega)]

theorem schedule_getElem_of_lt (b : Vector Byte 64) (w : Vector Word 64) (t : Fin 16) :
    (schedule b w)[t.val] = blockWord b t := by
  have hkept := (expandFrom_sixteen (Nat.le_refl 48) (schedLoad b w) ⟨t.val, by omega⟩).1 t.isLt
  have hload : (schedLoad b w)[t.val] = blockWord b t := by simp [schedLoad]
  rw [schedule]
  exact hkept.trans hload

theorem schedule_getElem_of_ge (b : Vector Byte 64) (w : Vector Word 64) {t : Fin 64} (ht : 16 ≤ t.val) :
    (schedule b w)[t] = expandWord (schedule b w) t := by
  rw [schedule]
  exact (expandFrom_sixteen (Nat.le_refl 48) (schedLoad b w) t).2 ht t.isLt

/-- The four indices the recurrence of R78 reads, counted from t - 16. -/
theorem expandWord_of_index (w : Vector Word 64) {t : Fin 64} (i : Fin 48) (ht : t.val = i.val + 16) :
    expandWord w t =
      add32 (add32 (add32 w[i.val] (schedS0 w[i.val + 1])) w[i.val + 9]) (schedS1 w[i.val + 14]) := by
  have h16 : (t - 16).val = i.val := by omega
  have h15 : (t - 15).val = i.val + 1 := by omega
  have h7 : (t - 7).val = i.val + 9 := by omega
  have h2 : (t - 2).val = i.val + 14 := by omega
  simp only [expandWord, Fin.getElem_fin, h16, h15, h7, h2]

/-- Settles O17: the expansion keeps the loaded words, and from 16 on every word meets the recurrence in the end. -/
theorem scheduleMeetsRecurrence : Obligations.ScheduleMeetsRecurrence :=
  fun b w => ⟨schedule_getElem_of_lt b w, fun i =>
    (schedule_getElem_of_ge b w (t := ⟨i.val + 16, by omega⟩) (Nat.le_add_left ..)).trans
      (expandWord_of_index _ i rfl)⟩

/-- The compression is the same over any earlier contents of W (R82). -/
theorem compress_eq_accumulate (h : Vector Word 8) (b : Vector Byte 64) (w : Vector Word 64) :
    compress h b = accumulate h (roundsOf (schedule b w) h) := by
  rw [compress, schedule_forgets b _ w]

/-- Settles O18: the working state before round i is the seed after i rounds. -/
theorem compressionFollowsTheRounds : Obligations.CompressionFollowsTheRounds := by
  intro h b w
  refine ⟨fun n => roundsFrom n 0 (schedule b w) (seedWork h), rfl, fun i => ?_, ?_⟩
  · have hi : (0 : Fin 64) + Fin.ofNat 64 i.val = i := by simp
    exact (roundsFrom_succ ..).trans (congrArg (roundAt _ · _) hi)
  · rw [compress_eq_accumulate h b w, roundsOf]
    rfl

/-! INIT and COMPRESS (R83, R84). -/

/-- Settles O45: INIT has no checks, and its action sets H and HV. -/
theorem initLoadsTheInitialValue : Obligations.InitLoadsTheInitialValue :=
  ⟨decode_encode .init, fun _ hb => exec_accepted (i := .init) hb rfl⟩

theorem check_compress_noState {s : State} (h : s.status.hv = false) : check .compress s = some .noState := if_pos h

theorem check_compress_noBlock {s : State} (hhv : s.status.hv = true) (h : s.status.blkv = false) :
    check .compress s = some .noBlock := by
  simp [check, hhv, h]

/-- Settles O46: the two checks in their order, and the phases' H is the function's, whatever W held. -/
theorem compressAppliesTheFunction : Obligations.CompressAppliesTheFunction := by
  refine ⟨decode_encode .compress, fun s hb => ⟨?_, ?_, fun hhv hblkv => ?_⟩⟩
  · exact fun hhv => exec_rejected hb (check_compress_noState hhv)
  · exact fun hhv hblkv => exec_rejected hb (check_compress_noBlock hhv hblkv)
  · rw [compress_eq_accumulate s.h s.block s.w]
    exact ⟨_, exec_accepted hb ((check_compress_eq_none s).mpr ⟨hhv, hblkv⟩), rfl⟩

/-- Settles O47: the first COMPRESS keeps HV and clears BLKV. -/
theorem secondCompressIsRejected : Obligations.SecondCompressIsRejected := by
  intro s hb hhv hblkv
  exact ⟨_, exec_accepted hb ((check_compress_eq_none s).mpr ⟨hhv, hblkv⟩),
    exec_rejected (e := .noBlock) rfl (check_compress_noBlock hhv rfl)⟩

end Sys2Proof.Machine
end

section
/-! The primitives (42_primitives.md): rotr, shr and add32 as functions of words (R85 to R88), then ROTR, SHR and ADD32
(R89 to R91). -/

namespace Sys2Proof.Machine

/-! The functions (R85 to R88). -/

theorem toNat_rotr (x : Word) (n : Nat) :
    (rotr x n).toNat = ((x.toNat >>> n) ||| (x.toNat <<< (32 - n))) % 2 ^ 32 := by
  have hshift : x.toNat >>> n < 2 ^ 32 := (Nat.shiftRight_le _ _).trans_lt x.isLt
  rw [rotr, BitVec.toNat_or, BitVec.toNat_ushiftRight, BitVec.toNat_shiftLeft, Nat.or_mod_two_pow,
    Nat.mod_eq_of_lt hshift]

@[simp] theorem rotr_zero (x : Word) : rotr x 0 = x := by
  simp [rotr]

theorem toNat_shr (x : Word) (n : Nat) : (shr x n).toNat = x.toNat / 2 ^ n := by
  rw [shr, BitVec.toNat_ushiftRight, Nat.shiftRight_eq_div_pow]

@[simp] theorem shr_zero (x : Word) : shr x 0 = x := BitVec.ushiftRight_zero x

theorem toNat_add32 (x y : Word) : (add32 x y).toNat = (x.toNat + y.toNat) % 2 ^ 32 := BitVec.toNat_add x y

/-- Settles O6: the right shift stays below 2^32, so only the left one is reduced, and the bits rotate. -/
theorem rotrMovesEachBit : Obligations.RotrMovesEachBit :=
  fun x n hn => ⟨toNat_rotr x n, fun _ hj => getLsbD_rotr x hn hj, rotr_zero x⟩

/-- Settles O7: a bit taken from above 31 is no bit of the word, so it reads as zero. -/
theorem shrDividesByPower : Obligations.ShrDividesByPower := by
  refine fun x => ⟨toNat_shr x, fun n j => ?_, shr_zero x⟩
  rw [getLsbD_shr]
  split
  case isTrue => rfl
  case isFalse habove => exact BitVec.getLsbD_of_ge x (j + n) (by omega)

/-- Settles O8: the laws are those of `+` on words, and the inner reductions of a chained sum can be dropped. -/
theorem addWrapsModulo : Obligations.AddWrapsModulo := by
  refine ⟨toNat_add32, BitVec.add_comm, BitVec.add_assoc, BitVec.add_zero, fun v x y z t => ?_⟩
  simp only [toNat_add32, Nat.mod_add_mod]

/-! The commands (R89 to R91). -/

/-- The word by shifts, as 30_encoding.md R59 writes it: `OP | (n << 8)`. -/
theorem encode_eq_or (i : Instr) : encode i = (opcode i).zeroExtend 32 ||| ((shiftAmount i).zeroExtend 32 <<< 8) := by
  refine BitVec.eq_of_getLsbD_eq fun j hj => ?_
  rw [encode, BitVec.getLsbD_append, BitVec.getLsbD_append]
  by_cases hlow : j < 8
  · simp [hlow, hj]
  · have hop : (opcode i).getLsbD j = false := BitVec.getLsbD_of_ge _ _ (Nat.not_lt.mp hlow)
    have hshift : (shiftAmount i).getLsbD (j - 8) = true → j - 8 < 5 := BitVec.lt_of_getLsbD
    simpa [hlow, hj, hop] using hshift

theorem decode_or_shifted (i : Instr) :
    decode ((opcode i).zeroExtend 32 ||| ((shiftAmount i).zeroExtend 32 <<< 8)) = .command i := by
  rw [← encode_eq_or, decode_encode]

/-- Settles O49: ROTR has no checks, and its action uses the latched ALU_A and N. -/
theorem rotrRotatesAluA : Obligations.RotrRotatesAluA := fun n =>
  ⟨decode_or_shifted (.rotr n), fun _ hb => exec_accepted (i := .rotr n) hb rfl⟩

/-- Settles O50: SHR has no checks, and its action uses the latched ALU_A and N. -/
theorem shrShiftsAluA : Obligations.ShrShiftsAluA := fun n =>
  ⟨decode_or_shifted (.shr n), fun _ hb => exec_accepted (i := .shr n) hb rfl⟩

/-- Settles O51: ADD32 has no checks, and its action changes ALU_R alone, to the sum of the latched operands. -/
theorem addSumsTheOperands : Obligations.AddSumsTheOperands :=
  ⟨decode_encode .add32, fun _ hb => exec_accepted (i := .add32) hb rfl⟩

end Sys2Proof.Machine
end

section
/-! Serialization (43_serialization.md): the function (R92), then SERIALIZE (R93). -/

namespace Sys2Proof.Machine

/-! The function (R92). -/

/-- Byte j of word i of a digest. -/
theorem digestOfWords_getElem (h : Vector Word 8) (i : Fin 8) (j : Fin 4) :
    (digestOfWords h)[4 * i.val + j.val] = byteOfWord h[i] j.val := by
  have hword : (4 * i.val + j.val) / 4 = i.val := by omega
  have hbyte : (4 * i.val + j.val) % 4 = j.val := by omega
  simp only [digestOfWords, Vector.getElem_ofFn, hword, hbyte, Fin.getElem_fin]

/-- The bytes D[4i] to D[4i+3], at the indices as R92 writes them. -/
theorem digestOfWords_bytes (h : Vector Word 8) (i : Fin 8) :
    (digestOfWords h)[4 * i.val] = byteOfWord h[i] 0 ∧ (digestOfWords h)[4 * i.val + 1] = byteOfWord h[i] 1 ∧
    (digestOfWords h)[4 * i.val + 2] = byteOfWord h[i] 2 ∧ (digestOfWords h)[4 * i.val + 3] = byteOfWord h[i] 3 :=
  have byte := digestOfWords_getElem h i
  ⟨byte 0, byte 1, byte 2, byte 3⟩

@[simp] theorem digestWord_digestOfWords (h : Vector Word 8) (i : Fin 8) : digestWord (digestOfWords h) i = h[i] := by
  obtain ⟨h0, h1, h2, h3⟩ := digestOfWords_bytes h i
  rw [digestWord, h0, h1, h2, h3, be32_byteOfWord]

theorem toList_eq_ofFn {α : Type} {n : Nat} (v : Vector α n) : v.toList = List.ofFn fun i : Fin n => v[i] :=
  (congrArg Vector.toList Vector.ofFn_getElem).symm.trans Vector.toList_ofFn

theorem bytes32_eq_ofFn (w : Word) : bytes32 w = List.ofFn fun j : Fin 4 => byteOfWord w j.val := rfl

theorem serialize_eq_flatten (h : Vector Word 8) : serialize h = (List.ofFn fun i : Fin 8 => bytes32 h[i]).flatten := by
  rw [serialize, toList_eq_ofFn, List.flatMap, List.map_ofFn, Function.comp_def]

/-- The 32 bytes fall into eight groups of four, one for each word. -/
theorem digestOfWords_toList (h : Vector Word 8) : (digestOfWords h).toList = serialize h := by
  calc (digestOfWords h).toList
      = List.ofFn fun k : Fin (4 * 8) => (digestOfWords h)[k] := toList_eq_ofFn _
    _ = (List.ofFn fun i : Fin 8 => bytes32 h[i]).flatten := by
      simp only [List.ofFn_mul', Fin.getElem_fin, digestOfWords_getElem, bytes32_eq_ofFn]
    _ = serialize h := (serialize_eq_flatten h).symm

theorem serialize_length (h : Vector Word 8) : (serialize h).length = 32 := by
  rw [← digestOfWords_toList, Vector.length_toList]

/-- Settles O12: each byte of D is a byte of its word, and packing the four bytes of a word gives it back. -/
theorem serializationIsBigEndian : Obligations.SerializationIsBigEndian :=
  fun h => ⟨digestOfWords_bytes h, digestOfWords_toList h, serialize_length h, digestWord_digestOfWords h⟩

/-! SERIALIZE (R93). -/

theorem check_serialize_noState {s : State} (h : s.status.hv = false) : check .serialize s = some .noState := if_pos h

/-- Settles O48: the one check is that of HV, and an accepted SERIALIZE writes the digest of the H it keeps. -/
theorem serializeWritesTheDigest : Obligations.SerializeWritesTheDigest := by
  refine ⟨decode_encode .serialize, fun s hb => ⟨fun hhv => ?_, fun hhv => ?_⟩⟩
  · exact exec_rejected hb (check_serialize_noState hhv)
  · exact ⟨_, exec_accepted hb ((check_serialize_eq_none s).mpr hhv), rfl, digestOfWords_toList s.h,
      digestWord_digestOfWords s.h⟩

end Sys2Proof.Machine
end

section
/-! Submission and the sequencer (44_hash.md R94 to R98): what a submission answers, the table of phases, and that every
command comes to its end. -/

namespace Sys2Proof.Machine

/-! A submission. -/

/-- Settles O27: the fields of a word that decodes to a command are the command's. -/
theorem acceptanceLatchesOperands : Obligations.AcceptanceLatchesOperands := by
  intro w i s hb hw hc
  obtain ⟨-, hshift, hop⟩ := fields_of_decode hw
  unfold shiftField at hshift
  unfold opField at hop
  rw [submit_accepted hw hb hc, hop, hshift]
  rfl

/-- A command whose conditions hold passes its checks (60_exceptions.md R111). -/
theorem check_eq_none_of {i : Instr} {s : State}
    (hlen : i = .pad ∨ i = .hash → s.len.toNat ≤ maxLen ∧ s.len.toNat ≤ s.msg.cap)
    (hload : i = .loadblk → s.status.padded = true ∧ s.blkidx ≠ s.nblk)
    (hhv : i = .compress ∨ i = .serialize → s.status.hv = true)
    (hblkv : i = .compress → s.status.blkv = true) : check i s = none := by
  cases i with
  | pad => exact (checkLength_eq_none s).mpr (hlen (.inl rfl))
  | hash => exact (checkLength_eq_none s).mpr (hlen (.inr rfl))
  | loadblk => exact (check_loadblk_eq_none s).mpr (hload rfl)
  | compress => exact (check_compress_eq_none s).mpr ⟨hhv (.inl rfl), hblkv rfl⟩
  | serialize => exact (check_serialize_eq_none s).mpr (hhv (.inr rfl))
  | _ => rfl

/-- Settles O28: each failing check has its lemma, and the conditions of the last clause are those of all the checks. -/
theorem submissionReportsTheFirstFailure : Obligations.SubmissionReportsTheFirstFailure := by
  intro w s
  refine ⟨submit_busy w, fun hb c hw => submit_illegal hw hb, fun hb i hw => ?_⟩
  have rejected {e : ErrCode} (hc : check i s = some e) := submit_rejected hw hb hc
  refine ⟨?lenRange, ?lenCap, ?notPadded, ?noMoreBlocks, ?noBlock, ?noState, ?accepted⟩
  case lenRange => rintro (rfl | rfl) hrange <;> exact rejected (checkLength_lenRange hrange)
  case lenCap => rintro (rfl | rfl) hmax hcap <;> exact rejected (checkLength_lenCap hmax hcap)
  case notPadded => rintro rfl hpad; exact rejected (check_loadblk_notPadded hpad)
  case noMoreBlocks => rintro rfl hpad hlast; exact rejected (check_loadblk_noMoreBlocks hpad hlast)
  case noBlock => rintro rfl hhv hblkv; exact rejected (check_compress_noBlock hhv hblkv)
  case noState =>
    rintro (rfl | rfl) hhv
    · exact rejected (check_compress_noState hhv)
    · exact rejected (check_serialize_noState hhv)
  case accepted =>
    exact fun hlen hload hhv hblkv => submit_accepted hw hb (check_eq_none_of hlen hload hhv hblkv)

/-! The table of phases (R97). -/

/-- The branch on `OPL = HASH`, with the opcode written out. -/
theorem enterIfHash_eq (p : Phase) (s : State) :
    enterIfHash p s = if s.latch.opl = 0x01 then { s with seq := p } else complete s := by
  simp only [enterIfHash, runsHash, opcode, beq_iff_eq]
  rfl

/-- A branch between two next phases. -/
theorem ite_enter (c : Prop) [Decidable c] (p q : Phase) (s : State) :
    (if c then enter p s else enter q s) = { s with seq := if c then p else q } := by
  split <;> rfl

/-- Settles O35: one clause a phase, each by the lemma of that phase. -/
theorem phasesFollowTheTable : Obligations.PhasesFollowTheTable := by
  intro s
  refine ⟨fun rest => step_move .core s rest, ?alone, coreStep_idle, coreStep_nop,
    fun h => (coreStep_pad h).trans (enterIfHash_eq .init (padAction s)),
    fun h => (coreStep_init h).trans (enterIfHash_eq .test (initAction s)), coreStep_test,
    fun h => (coreStep_load h).trans (enterIfHash_eq .sched (loadAction s)), coreStep_sched,
    fun i h => (coreStep_expand h).trans (ite_enter ..), coreStep_seed,
    fun i h => (coreStep_round h).trans (ite_enter ..),
    fun h => (coreStep_accum h).trans (enterIfHash_eq .test (accumAction s)), coreStep_ser, ?rotr, ?shr, ?add32⟩
  case alone =>
    intro hscript
    obtain ⟨-, hstep⟩ | ⟨m, rest, hmove, -⟩ := step_cases s
    · exact hstep
    · cases hscript.symm.trans hmove
  all_goals
    intro h hop
    rw [coreStep_alu h, aluAction, hop]
    rfl

/-! An accepted command (R98, R99). -/

/-- Settles O36: the phases of the accepted command, and the meaning by its action. -/
theorem sequencerReachesTheMeaning : Obligations.SequencerReachesTheMeaning := by
  intro i s hb hc
  obtain ⟨hends, hbusy⟩ := busyRun_accept hc
  exact ⟨(exec_accepted hb hc).trans (congrArg Host.Outcome.next hends.symm), hbusy⟩

/-! Completion from any phase (R98). -/

/-- What every phase keeps, all phases keep. -/
theorem coreRun_keeps {P : State → Prop} (hstep : ∀ s, P s → P (coreStep s)) (n : Nat) {s : State} (h : P s) :
    P (coreRun n s) := by
  induction n generalizing s with
  | zero => exact h
  | succ n ih => exact ih (hstep s h)

theorem enterIfHash_error (p : Phase) (s : State) :
    (enterIfHash p s).status.err = s.status.err ∧ (enterIfHash p s).status.errcode = s.status.errcode := by
  unfold enterIfHash
  split
  · exact ⟨rfl, rfl⟩
  · simp

/-- No phase reports or clears an error. -/
theorem coreStep_error (s : State) :
    (coreStep s).status.err = s.status.err ∧ (coreStep s).status.errcode = s.status.errcode := by
  cases hs : s.seq with
  | test => rw [coreStep_test hs]; split <;> exact ⟨rfl, rfl⟩
  | expand i => rw [coreStep_expand hs]; split <;> exact ⟨rfl, rfl⟩
  | round i => rw [coreStep_round hs]; split <;> exact ⟨rfl, rfl⟩
  | alu =>
    obtain ⟨r, hr⟩ := aluAction_eq s
    simp [coreStep_alu hs, hr]
  | _ => simp [coreStep, hs, enterIfHash_error]

/-- IDLE is entered by completion, which clears BUSY. -/
theorem coreStep_idle_notBusy {s : State} (h : s.seq = .idle → s.status.busy = false) :
    (coreStep s).seq = .idle → (coreStep s).status.busy = false := by
  intro hidle
  by_cases hs : s.seq = .idle
  · rw [coreStep_idle hs]
    exact h hs
  · obtain ⟨t, e, -⟩ | ⟨hne, -⟩ := coreStep_cases hs
    · rw [e, complete_status, completedStatus_busy]
    · exact absurd hidle hne

/-- The blocks of the padding not yet loaded. -/
def blocksLeft (s : State) : Nat := s.nblk.toNat - s.blkidx.toNat

/-- An upper bound of the phases to come, in any state: those of a HASH, whose block loop takes 117 phases a block. -/
def phasesLeft (s : State) : Nat :=
  match s.seq with
  | .idle => 0
  | .nop => 1
  | .ser => 1
  | .alu => 1
  | .test => 117 * blocksLeft s + 2
  | .accum => 117 * blocksLeft s + 3
  | .round i => 117 * blocksLeft s + (67 - i.val)
  | .seed => 117 * blocksLeft s + 68
  | .expand i => 117 * blocksLeft s + (132 - i.val)
  | .sched => 117 * blocksLeft s + 117
  | .load => 117 * blocksLeft (loadAction s) + 118
  | .init => 117 * blocksLeft s + 3
  | .pad => 117 * blocksLeft (padAction s) + 4

theorem phasesLeft_of_seq {s : State} {p : Phase} (h : s.seq = p) : phasesLeft s = phasesLeft (enter p s) := by
  subst h; rfl

/-- Loading the next block leaves one block less. -/
theorem blocksLeft_loadAction {s : State} (h : s.blkidx < s.nblk) : blocksLeft (loadAction s) + 1 = blocksLeft s := by
  simp only [blocksLeft, loadAction_blkidx, loadAction_nblk]
  bv_omega

@[simp] theorem phasesLeft_complete (s : State) : phasesLeft (complete s) = 0 := by
  simp only [phasesLeft, complete_seq]

/-- A phase that goes on only for HASH has no more to come than one that goes on. -/
theorem phasesLeft_enterIfHash_le (p : Phase) (s : State) : phasesLeft (enterIfHash p s) ≤ phasesLeft (enter p s) := by
  unfold enterIfHash
  split
  · exact Nat.le_refl _
  · rw [phasesLeft_complete]
    exact Nat.zero_le _

/-- The index of the next phase of an expansion or of the rounds. -/
theorem val_succ_of_lt_last {i : Fin 64} (h : i < 63) : (i + 1).val = i.val + 1 :=
  Fin.val_add_one_of_lt (n := 63) h

/-- Every phase leaves fewer phases to come. -/
theorem phasesLeft_coreStep_lt {s : State} (h : s.seq ≠ .idle) : phasesLeft (coreStep s) < phasesLeft s := by
  cases hs : s.seq with
  | idle => exact absurd hs h
  | nop => rw [coreStep_nop hs, phasesLeft_complete, phasesLeft_of_seq hs]; exact Nat.one_pos
  | ser => rw [coreStep_ser hs, phasesLeft_complete, phasesLeft_of_seq hs]; exact Nat.one_pos
  | alu => rw [coreStep_alu hs, phasesLeft_complete, phasesLeft_of_seq hs]; exact Nat.one_pos
  | pad =>
    rw [coreStep_pad hs, phasesLeft_of_seq hs]
    exact Nat.lt_succ_of_le (phasesLeft_enterIfHash_le .init (padAction s))
  | init =>
    rw [coreStep_init hs, phasesLeft_of_seq hs]
    exact Nat.lt_succ_of_le (phasesLeft_enterIfHash_le .test (initAction s))
  | load =>
    rw [coreStep_load hs, phasesLeft_of_seq hs]
    exact Nat.lt_succ_of_le (phasesLeft_enterIfHash_le .sched (loadAction s))
  | accum =>
    rw [coreStep_accum hs, phasesLeft_of_seq hs]
    exact Nat.lt_succ_of_le (phasesLeft_enterIfHash_le .test (accumAction s))
  | test =>
    rw [coreStep_test hs, phasesLeft_of_seq hs]
    split
    case isTrue hmore =>
      have hblocks := blocksLeft_loadAction hmore
      show 117 * blocksLeft (loadAction s) + 118 < 117 * blocksLeft s + 2
      omega
    case isFalse => exact Nat.lt_add_left _ (Nat.lt_succ_self 1)
  | sched => rw [coreStep_sched hs, phasesLeft_of_seq hs]; exact Nat.lt_succ_self _
  | seed => rw [coreStep_seed hs, phasesLeft_of_seq hs]; exact Nat.lt_succ_self _
  | expand i =>
    rw [coreStep_expand hs, phasesLeft_of_seq hs]
    split
    case isTrue hmore =>
      show 117 * blocksLeft s + (132 - (i + 1).val) < 117 * blocksLeft s + (132 - i.val)
      rw [val_succ_of_lt_last hmore]
      omega
    case isFalse =>
      show 117 * blocksLeft s + 68 < 117 * blocksLeft s + (132 - i.val)
      omega
  | round i =>
    rw [coreStep_round hs, phasesLeft_of_seq hs]
    split
    case isTrue hmore =>
      show 117 * blocksLeft s + (67 - (i + 1).val) < 117 * blocksLeft s + (67 - i.val)
      rw [val_succ_of_lt_last hmore]
      omega
    case isFalse =>
      show 117 * blocksLeft s + 3 < 117 * blocksLeft s + (67 - i.val)
      omega

/-- Within the bound the core comes to IDLE. -/
theorem coreRun_reaches_idle {n : Nat} {s : State} (h : phasesLeft s ≤ n) : (coreRun n s).seq = .idle := by
  induction n generalizing s with
  | zero =>
    by_contra hs
    exact Nat.not_lt_zero _ ((phasesLeft_coreStep_lt hs).trans_le h)
  | succ n ih =>
    refine ih (s := coreStep s) ?_
    by_cases hs : s.seq = .idle
    · rw [coreStep_idle hs, phasesLeft_of_seq hs]
      exact Nat.zero_le n
    · exact Nat.le_of_lt_succ ((phasesLeft_coreStep_lt hs).trans_le h)

theorem coreRun_error (n : Nat) (s : State) :
    (coreRun n s).status.err = s.status.err ∧ (coreRun n s).status.errcode = s.status.errcode :=
  coreRun_keeps (P := fun t => t.status.err = s.status.err ∧ t.status.errcode = s.status.errcode)
    (fun t h => (coreStep_error t).imp (·.trans h.1) (·.trans h.2)) n ⟨rfl, rfl⟩

theorem coreRun_idle_notBusy {s : State} (h : s.seq ≠ .idle) (n : Nat) :
    (coreRun n s).seq = .idle → (coreRun n s).status.busy = false :=
  coreRun_keeps (P := fun t => t.seq = .idle → t.status.busy = false) (fun _ => coreStep_idle_notBusy) n (absurd · h)

/-- Settles O38: every phase counts down, IDLE is entered with BUSY = 0 and never left, and no phase reports an error. -/
theorem everyCommandCompletes : Obligations.EveryCommandCompletes := by
  intro s hs
  have hidle := coreRun_reaches_idle (Nat.le_refl (phasesLeft s))
  obtain ⟨herr, hcode⟩ := coreRun_error (phasesLeft s) s
  refine ⟨phasesLeft s, hidle, coreRun_idle_notBusy hs _ hidle, herr, hcode, fun m hm => ?_⟩
  obtain ⟨k, rfl⟩ := Nat.exists_eq_add_of_le hm
  rw [coreRun_add, coreRun_idle hidle]

end Sys2Proof.Machine
end

section
/-! The commands of 44_hash.md: NOP (R100), HASH with the digest it computes (R101, R102), and the stepwise run that leaves
the same (R103). -/

namespace Sys2Proof.Machine

/-- Settles O41: NOP has no checks and no action of its own. -/
theorem nopOnlyClearsTheError : Obligations.NopOnlyClearsTheError :=
  ⟨decode_encode .nop, fun _ => ⟨fun hb => exec_accepted (i := .nop) hb rfl, fun hb => exec_busy .nop hb⟩⟩

/-! The block loop of HASH computes the chain (R101, R102). -/

/-- H after the first `j` blocks of a padded message, from IV. -/
def chainTo (p : List Byte) (j : Nat) : Vector Word 8 :=
  (List.range j).foldl (fun h i => compress h (blockOfBytes p i)) iv

theorem chainTo_succ (p : List Byte) (j : Nat) :
    chainTo p (j + 1) = compress (chainTo p j) (blockOfBytes p j) := by
  simp only [chainTo, List.range_succ, List.foldl_append, List.foldl_cons, List.foldl_nil]

/-- The chain of a padded message takes all its blocks. -/
theorem chain_pad (m : List Byte) : chain (pad m) = chainTo (pad m) (blockCount m.length) := by
  rw [chain, length_pad, length_add_zeroCount, Nat.mul_div_cancel_left _ (by decide)]
  rfl

/-- The block LOADBLK produces is the block of the padded message (40_preprocessor.md R64, R68). -/
theorem paddedBlock_eq_blockOfBytes (m : MsgMemory) {n j : Nat} (hj : j < blockCount n) :
    paddedBlock m n (blockCount n) j = blockOfBytes (pad (m.message n)) j := by
  unfold paddedBlock blockOfBytes
  congr 1
  funext t
  rw [List.getD_eq_getElem?_getD, padByteIsByteOfPaddedMessage m n _ (by omega), Option.getD_some]

/-- The block loop of a HASH over MSG[0..n) stands after `j` blocks: H is the chain so far, BLOCK the block before. -/
structure Hashed (m : MsgMemory) (n j : Nat) (s : State) : Prop where
  msg : s.msg = m
  plen : s.plen.toNat = n
  nblk : s.nblk.toNat = blockCount n
  blkidx : s.blkidx.toNat = j
  h : s.h = chainTo (pad (m.message n)) j
  block : ∀ i, i + 1 = j → s.block = blockOfBytes (pad (m.message n)) i

namespace Hashed

variable {m : MsgMemory} {n j : Nat} {s : State}

/-- PAD and INIT lead to the loop before its first block. -/
theorem started (hmax : s.len.toNat ≤ maxLen) : Hashed s.msg s.len.toNat 0 (hashStarted s) where
  msg := rfl
  plen := rfl
  nblk := toNat_blockCount hmax
  blkidx := rfl
  h := rfl
  block := nofun

theorem lt (r : Hashed m n j s) (hj : j < blockCount n) : s.blkidx < s.nblk := by
  rw [BitVec.lt_def, r.blkidx, r.nblk]
  exact hj

/-- One block loaded and compressed. -/
theorem oneBlock (r : Hashed m n j s) (hj : j < blockCount n) : Hashed m n (j + 1) (compressAction (loadAction s)) := by
  have hblock : (loadAction s).block = blockOfBytes (pad (m.message n)) j := by
    rw [loadAction_block, r.msg, r.plen, r.nblk, r.blkidx, paddedBlock_eq_blockOfBytes m hj]
  have hidx : (s.blkidx + 1).toNat = s.blkidx.toNat + 1 := by
    have hlt := r.lt hj
    bv_omega
  exact
    { msg := r.msg
      plen := r.plen
      nblk := r.nblk
      blkidx := hidx.trans (congrArg (· + 1) r.blkidx)
      h := by rw [chainTo_succ, ← r.h, ← hblock, compress_eq_accumulate _ _ s.w]; rfl
      block := fun i hi => Nat.succ.inj hi ▸ hblock }

/-- The rest of the loop. -/
theorem hashBlocks (r : Hashed m n j s) (k : Nat) (hk : j + k = blockCount n) :
    Hashed m n (blockCount n) (hashBlocks k s) := by
  induction k generalizing j s with
  | zero => exact hk ▸ r
  | succ k ih =>
    rw [Machine.hashBlocks, if_pos (r.lt (by omega))]
    exact ih (r.oneBlock (by omega)) (by omega)

end Hashed

/-- HASH as one update of the state: what R101 lists, with the digest as the bytes of the chain; W and a..h are left open. -/
theorem hashAction_accept_eq {s : State} (hmax : s.len.toNat ≤ maxLen) :
    ∃ w v, hashAction (accept .hash s) =
      { padAction (accept .hash s) with
        blkidx := BitVec.ofNat 64 (blockCount s.len.toNat)
        block := blockOfBytes (pad (s.msg.message s.len.toNat)) ((s.len.toNat + 8) / 64)
        h := chain (pad (s.msg.message s.len.toNat))
        digest := digestOfWords (chain (pad (s.msg.message s.len.toNat)))
        w := w
        work := v
        status := serializeStatus (initStatus (padStatus (acceptedStatus s.status))) } := by
  obtain ⟨k, b, h, w, v, e⟩ := hashBlocks_eq (blockCount s.len.toNat) (s := hashStarted s) rfl
  have r := (Hashed.started hmax).hashBlocks (blockCount s.len.toNat) (Nat.zero_add _)
  rw [e] at r
  have hk : k = BitVec.ofNat 64 (blockCount s.len.toNat) :=
    BitVec.eq_of_toNat_eq (r.blkidx.trans (toNat_blockCount hmax).symm)
  have hb : b = blockOfBytes (pad (s.msg.message s.len.toNat)) ((s.len.toNat + 8) / 64) := r.block _ rfl
  have hh : h = chain (pad (s.msg.message s.len.toNat)) := by
    rw [chain_pad, length_message]
    exact r.h
  have haction : hashAction (accept .hash s) = serAction (hashBlocks (hashStarted s).nblk.toNat (hashStarted s)) := rfl
  refine ⟨w, v, ?_⟩
  rw [haction, (Hashed.started hmax).nblk, e, hk, hb, hh]
  rfl

/-- The STATUS of R101: PADDED, HV and DV. -/
theorem statusWord_hashed : statusWord ⟨false, false, true, false, true, true, 0⟩ = 0x00000034 := by decide

/-- Settles O52: the two checks in their order, and the update `hashAction_accept_eq` gives. -/
theorem hashComputesSha256 : Obligations.HashComputesSha256 := by
  refine ⟨decode_encode .hash, fun s hb => ⟨fun hrange => ?_, fun hmax hcap => ?_, fun hmax hcap => ?_⟩⟩
  · exact exec_rejected (i := .hash) hb (checkLength_lenRange hrange)
  · exact exec_rejected (i := .hash) hb (checkLength_lenCap hmax hcap)
  · obtain ⟨w, v, e⟩ := hashAction_accept_eq hmax
    refine ⟨_, exec_accepted (i := .hash) hb ((checkLength_eq_none s).mpr ⟨hmax, hcap⟩), ?_⟩
    rw [actionOf, e]
    exact ⟨rfl, digestOfWords_toList _, digestWord_digestOfWords _, statusWord_hashed⟩

/-! Commands one after another. -/

theorem execAll_cons {i : Instr} {s t : State} (h : exec i s = .next t) (l : List Instr) :
    execAll (i :: l) s = execAll l t := by
  rw [execAll, h]

theorem execAll_append {l : List Instr} {s t : State} (h : execAll l s = .next t) (l' : List Instr) :
    execAll (l ++ l') s = execAll l' t := by
  induction l generalizing s with
  | nil => cases h; rfl
  | cons i l ih =>
    obtain ⟨u, hu⟩ := exec_answers i s
    rw [List.cons_append, execAll_cons hu]
    exact ih ((execAll_cons hu l).symm.trans h)

/-! The stepwise run (R103): between its commands the core is idle, and all else is as it is inside a HASH. -/

/-- LOADBLK and COMPRESS, `n` times, are the block loop with `n` blocks to come. -/
theorem execAll_blocks (n : Nat) {s : State} (j : Instr) (hpad : s.status.padded = true) (hhv : s.status.hv = true)
    (hn : s.blkidx.toNat + n = s.nblk.toNat) :
    ∃ k, execAll (List.replicate n [Instr.loadblk, Instr.compress]).flatten (settled j s) =
      .next (settled k (hashBlocks n s)) := by
  induction n generalizing s j with
  | zero => exact ⟨j, rfl⟩
  | succ n ih =>
    have hmore : s.blkidx < s.nblk := by rw [BitVec.lt_def]; omega
    have hnext : (s.blkidx + 1).toNat + n = s.nblk.toNat := by bv_omega
    have hload : exec .loadblk (settled j s) = .next (settled .loadblk (loadAction s)) :=
      exec_accepted rfl ((check_loadblk_eq_none _).mpr ⟨hpad, BitVec.ne_of_lt hmore⟩)
    have hcompress : exec .compress (settled .loadblk (loadAction s)) =
        .next (settled .compress (compressAction (loadAction s))) :=
      exec_accepted rfl ((check_compress_eq_none _).mpr ⟨hhv, rfl⟩)
    obtain ⟨k, rest⟩ := ih (s := compressAction (loadAction s)) .compress hpad hhv hnext
    refine ⟨k, ?_⟩
    rw [List.replicate_succ, List.flatten_cons, List.cons_append, execAll_cons hload, List.cons_append,
      execAll_cons hcompress, List.nil_append, rest, hashBlocks, if_pos hmore]

/-- The stepwise run of an acceptable length ends in the state HASH ends in, but for the latch. -/
theorem execAll_stepwiseHash {s : State} (hb : s.status.busy = false) (hc : check .hash s = none) :
    execAll (stepwiseHash s.len.toNat) s = .next (settled .serialize (hashAction (accept .hash s))) := by
  obtain ⟨hmax, -⟩ := (checkLength_eq_none s).mp hc
  have hnblk : (hashStarted s).nblk.toNat = blockCount s.len.toNat := toNat_blockCount hmax
  have pad : exec .pad s = .next (settled .pad (padAction (accept .hash s))) := exec_accepted (i := .pad) hb hc
  have init : exec .init (settled .pad (padAction (accept .hash s))) = .next (settled .init (hashStarted s)) :=
    exec_accepted (i := .init) rfl rfl
  obtain ⟨j, blocks⟩ := execAll_blocks (blockCount s.len.toNat) (s := hashStarted s) .init rfl rfl
    (hnblk ▸ Nat.zero_add _)
  obtain ⟨_, _, _, _, _, e⟩ := hashBlocks_eq (blockCount s.len.toNat) (s := hashStarted s) rfl
  have hhv : (hashBlocks (blockCount s.len.toNat) (hashStarted s)).status.hv = true := by rw [e]; rfl
  have serialize : exec .serialize (settled j (hashBlocks (blockCount s.len.toNat) (hashStarted s))) =
      .next (settled .serialize (serAction (hashBlocks (blockCount s.len.toNat) (hashStarted s)))) :=
    exec_accepted rfl ((check_serialize_eq_none _).mpr hhv)
  rw [stepwiseHash, List.append_assoc, List.cons_append, execAll_cons pad, List.cons_append, execAll_cons init,
    List.nil_append, execAll_append blocks, execAll_cons serialize, ← hnblk]
  rfl

/-- Settles O54: a digest is a serialization; the stepwise run and HASH end in one state, each with its own latch. -/
theorem stepwiseRunEqualsHash : Obligations.StepwiseRunEqualsHash := by
  refine ⟨fun m => serialize_length _, fun s hb hmax hcap => ?_⟩
  have hc : check .hash s = none := (checkLength_eq_none s).mpr ⟨hmax, hcap⟩
  refine ⟨_, _, execAll_stepwiseHash hb hc, exec_accepted hb hc, ?_⟩
  obtain ⟨w, v, e⟩ := hashAction_accept_eq hmax
  rw [actionOf, e]
  rfl

end Sys2Proof.Machine
end

section
/-! Exceptions (60_exceptions.md): BUSY and BAD_CMD (R108, R109), and that no command stops the machine (R104). -/

namespace Sys2Proof.Machine

/-- Settles O31: each of the three branches of a command's meaning answers a next state. -/
theorem commandsNeverStop : Obligations.CommandsNeverStop := exec_answers

/-- Settles O29: a write to CMD submits the word, RUN runs it, and both report BAD_CMD before any check of a command. -/
theorem illegalWordReportsBadCmd : Obligations.IllegalWordReportsBadCmd := by
  intro w c s rest hb hw
  refine ⟨?write, ?run⟩
  case write => exact congrArg Host.Outcome.next (submit_illegal (s := withScript rest s) hw hb)
  case run => exact runWord_illegal (s := withScript (.poll :: rest) s) hw hb

/-! What no phase reads or writes: the operand registers, which a command reads from its latch
(70_reset_and_hazards.md R127), the host's moves and reads, and the error report (44_hash.md R98). -/

/-- `s` with all that no phase reads or writes as in `u`. -/
def withUnread (u s : State) : State :=
  { s with
    len := u.len
    aluA := u.aluA
    aluB := u.aluB
    script := u.script
    readLog := u.readLog
    status := { s.status with err := u.status.err, errcode := u.status.errcode } }

theorem withUnread_self (s : State) : withUnread s s = s := rfl

/-- A report is itself of what no phase reads. -/
theorem reported_withUnread (code : BitVec 8) (u s : State) :
    reported code (withUnread u s) = withUnread (reported code u) s := rfl

theorem drawResults_withUnread (u s : State) : drawResults (withUnread u s) = withUnread u (drawResults s) := by
  have hdraw (k : Nat) : drawEight (withUnread u s) k = drawEight s k := by unfold drawEight; rfl
  simp only [drawResults, hdraw]
  rfl

theorem complete_withUnread (u s : State) : complete (withUnread u s) = withUnread u (complete s) := by
  simp only [complete, spoilResults, drawResults_withUnread, apply_ite toIdle, apply_ite (withUnread u)]
  rfl

theorem enterIfHash_withUnread (p : Phase) (u s : State) :
    enterIfHash p (withUnread u s) = withUnread u (enterIfHash p s) := by
  simp only [enterIfHash, complete_withUnread, apply_ite (withUnread u)]
  rfl

theorem aluAction_withUnread (u s : State) : aluAction (withUnread u s) = withUnread u (aluAction s) := by
  simp only [aluAction, apply_ite (withUnread u)]
  rfl

theorem coreStep_withUnread (u s : State) : coreStep (withUnread u s) = withUnread u (coreStep s) := by
  have hseq : (withUnread u s).seq = s.seq := rfl
  unfold coreStep
  rw [hseq]
  cases s.seq with
  | nop => exact complete_withUnread u s
  | pad => exact enterIfHash_withUnread .init u (padAction s)
  | init => exact enterIfHash_withUnread .test u (initAction s)
  | load => exact enterIfHash_withUnread .sched u (loadAction s)
  | accum => exact enterIfHash_withUnread .test u (accumAction s)
  | ser => exact complete_withUnread u (serAction s)
  | alu => exact (congrArg complete (aluAction_withUnread u s)).trans (complete_withUnread u (aluAction s))
  | test | expand i | round i => simp only [apply_ite (withUnread u)]; rfl
  | idle | sched | seed => rfl

theorem coreRun_withUnread (n : Nat) (u s : State) : coreRun n (withUnread u s) = withUnread u (coreRun n s) := by
  induction n generalizing s with
  | zero => rfl
  | succ n ih => rw [coreRun_succ, coreStep_withUnread, ih, coreRun_succ]

/-- Phases leave as it is what they do not read. -/
theorem withUnread_coreRun (n : Nat) (s : State) : withUnread s (coreRun n s) = coreRun n s := by
  rw [← coreRun_withUnread, withUnread_self]

/-- An error report before some phases is the same report after them. -/
theorem coreRun_reported (code : BitVec 8) (n : Nat) (s : State) :
    coreRun n (reported code s) = reported code (coreRun n s) :=
  calc coreRun n (reported code s)
      = coreRun n (withUnread (reported code s) s) := rfl
    _ = withUnread (reported code s) (coreRun n s) := coreRun_withUnread ..
    _ = reported code (withUnread s (coreRun n s)) := (reported_withUnread ..).symm
    _ = reported code (coreRun n s) := by rw [withUnread_coreRun]

/-- Settles O30: the only effect of the submission is its report, which no phase reads. -/
theorem busySubmissionIsDropped : Obligations.BusySubmissionIsDropped := by
  intro s hb
  have dropped (w : Word) : submit w s = reported 0x02 s := submit_busy w hb
  refine ⟨dropped, fun i => exec_busy i hb, fun w n => ?_⟩
  rw [dropped]
  exact coreRun_reported 0x02 n s

end Sys2Proof.Machine
end

section
/-! Reset (70_reset_and_hazards.md R119, R120), and what the host may do while BUSY = 1 (R124, R125, R127). -/

namespace Sys2Proof.Machine

/-! An MSG write while a command runs (R125). -/

/-- A phase that goes on only for HASH completes every other command. -/
theorem enterIfHash_other {s : State} (h : s.latch.opl ≠ opcode .hash) (p : Phase) : enterIfHash p s = complete s := by
  simp [enterIfHash, runsHash, h]

/-- The completion of a command other than LOADBLK and HASH spoils nothing. -/
theorem complete_other {s : State} (hload : s.latch.opl ≠ opcode .loadblk) (hhash : s.latch.opl ≠ opcode .hash) :
    complete s = toIdle s := by
  simp [complete, spoilResults, runsLoadblk, runsHash, hload, hhash]

/-- The completion of a LOADBLK may spoil BLOCK alone (log entry 9). -/
theorem complete_loadblk_eq {s : State} (h : s.latch.opl = opcode .loadblk) :
    ∃ b n, complete s = { toIdle s with block := b, draws := n } := by
  cases ht : s.touched with
  | true => exact ⟨_, _, complete_touched_loadblk ht h⟩
  | false => exact ⟨_, _, complete_untouched ht⟩

/-- `s` with MSG and the data of `u` that no phase decides its successor by: the results and their intermediates, the
draws and the mark of MSG writes. -/
def withData (u s : State) : State :=
  { s with
    msg := u.msg
    block := u.block
    h := u.h
    digest := u.digest
    w := u.w
    work := u.work
    draws := u.draws
    touched := u.touched }

theorem complete_withData (u s : State) : ∃ v, complete (withData u s) = withData v (complete s) := by
  obtain ⟨b, h, d, n, e⟩ := complete_eq s
  obtain ⟨b', h', d', n', e'⟩ := complete_eq (withData u s)
  exact ⟨complete (withData u s), by rw [e', e]; rfl⟩

theorem enterIfHash_withData (p : Phase) (u s : State) :
    ∃ v, enterIfHash p (withData u s) = withData v (enterIfHash p s) := by
  have hruns : runsHash (withData u s) = runsHash s := rfl
  unfold enterIfHash
  rw [hruns]
  split
  · exact ⟨u, rfl⟩
  · exact complete_withData u s

theorem aluAction_withData (u s : State) : aluAction (withData u s) = withData u (aluAction s) := by
  simp only [aluAction, apply_ite (withData u)]
  rfl

/-- A phase takes its course whatever these data are. -/
theorem coreStep_withData (u s : State) : ∃ v, coreStep (withData u s) = withData v (coreStep s) := by
  have hseq : (withData u s).seq = s.seq := rfl
  unfold coreStep
  rw [hseq]
  cases s.seq with
  | idle => exact ⟨u, rfl⟩
  | nop => exact complete_withData u s
  | pad => exact enterIfHash_withData .init u (padAction s)
  | init => exact enterIfHash_withData .test (initAction (withData u s)) (initAction s)
  | test => exact ⟨u, by simp only [apply_ite (withData u)]; rfl⟩
  | load => exact enterIfHash_withData .sched (loadAction (withData u s)) (loadAction s)
  | sched => exact ⟨schedAction (withData u s), rfl⟩
  | expand i =>
    exact ⟨expandAction i (withData u s), by simp only [apply_ite (withData (expandAction i (withData u s)))]; rfl⟩
  | seed => exact ⟨seedAction (withData u s), rfl⟩
  | round i =>
    exact ⟨roundAction i (withData u s), by simp only [apply_ite (withData (roundAction i (withData u s)))]; rfl⟩
  | accum => exact enterIfHash_withData .test (accumAction (withData u s)) (accumAction s)
  | ser => exact complete_withData (serAction (withData u s)) (serAction s)
  | alu => exact aluAction_withData u s ▸ complete_withData u (aluAction s)

theorem coreRun_withData (n : Nat) (u s : State) : ∃ v, coreRun n (withData u s) = withData v (coreRun n s) := by
  induction n generalizing u s with
  | zero => exact ⟨u, rfl⟩
  | succ n ih =>
    obtain ⟨v, e⟩ := coreStep_withData u s
    rw [coreRun_succ, coreRun_succ, e]
    exact ih v (coreStep s)

theorem coreRun_msg (n : Nat) (s : State) : (coreRun n s).msg = s.msg :=
  coreRun_keeps (P := fun t => t.msg = s.msg) (fun t h => (coreStep_msg t).trans h) n rfl

/-- A running command that has come to IDLE was completed from a state with its latch, its mark of MSG writes and its
draws. -/
theorem coreRun_completes (n : Nat) {s : State} (h : s.seq ≠ .idle) (hend : (coreRun n s).seq = .idle) :
    ∃ t, coreRun n s = complete t ∧ t.latch = s.latch ∧ t.touched = s.touched ∧ t.draws = s.draws := by
  induction n generalizing s with
  | zero => exact absurd hend h
  | succ n ih =>
    rw [coreRun_succ] at hend ⊢
    obtain ⟨t, e, ht⟩ | ⟨hnext, hlatch, htouched, hdraws⟩ := coreStep_cases h
    · rw [e, coreRun_idle (complete_seq t)]
      exact ⟨t, rfl, ht⟩
    · rw [← hlatch, ← htouched, ← hdraws]
      exact ih hnext hend

/-- In a coherent state LOADBLK is in its one phase. -/
theorem Coherent.seq_of_loadblk {s : State} (c : Coherent s) (hne : s.seq ≠ .idle)
    (h : s.latch.opl = opcode .loadblk) : s.seq = .load := by
  have hp := c.phase
  cases hs : s.seq with
  | idle => exact absurd hs hne
  | load => rfl
  | _ => simp [PhaseOk, CompressPhaseOk, hs, h, opcode] at hp

/-- Only LOADBLK and HASH have the phase P_LOAD. -/
theorem Coherent.seq_ne_load {s : State} (c : Coherent s) (hload : s.latch.opl ≠ opcode .loadblk)
    (hhash : s.latch.opl ≠ opcode .hash) : s.seq ≠ .load := by
  intro hs
  have hp := c.phase
  simp only [PhaseOk, hs] at hp
  exact hp.1.elim hload fun h => hhash h.1

/-- `s` with MSG as `m`. -/
def withMsg (m : MsgMemory) (s : State) : State := { s with msg := m }

theorem aluAction_withMsg (m : MsgMemory) (s : State) : aluAction (withMsg m s) = withMsg m (aluAction s) := by
  simp only [aluAction, apply_ite (withMsg m)]
  rfl

/-- No phase of a command other than LOADBLK and HASH reads MSG: P_LOAD is not among them. -/
theorem Coherent.coreStep_withMsg {s : State} (c : Coherent s) (hload : s.latch.opl ≠ opcode .loadblk)
    (hhash : s.latch.opl ≠ opcode .hash) (m : MsgMemory) :
    Machine.coreStep (withMsg m s) = withMsg m (Machine.coreStep s) := by
  have ends {t : State} (h : t.latch = s.latch) : complete (withMsg m t) = withMsg m (complete t) := by
    rw [complete_other (s := t) (h ▸ hload) (h ▸ hhash)]
    exact complete_other (s := withMsg m t) (h ▸ hload) (h ▸ hhash)
  have endsUnlessHash {t : State} (p : Phase) (h : t.latch = s.latch) :
      enterIfHash p (withMsg m t) = withMsg m (enterIfHash p t) := by
    rw [enterIfHash_other (s := t) (h ▸ hhash), enterIfHash_other (s := withMsg m t) (h ▸ hhash), ends h]
  have hne := c.seq_ne_load hload hhash
  have hseq : (withMsg m s).seq = s.seq := rfl
  have halu : (aluAction s).latch = s.latch := by
    obtain ⟨r, hr⟩ := aluAction_eq s
    rw [hr]
  unfold Machine.coreStep
  rw [hseq]
  cases hs : s.seq with
  | load => exact absurd hs hne
  | nop => exact ends rfl
  | ser => exact ends (t := serAction s) rfl
  | alu => exact aluAction_withMsg m s ▸ ends halu
  | pad => exact endsUnlessHash (t := padAction s) .init rfl
  | init => exact endsUnlessHash (t := initAction s) .test rfl
  | accum => exact endsUnlessHash (t := accumAction s) .test rfl
  | test | expand i | round i => simp only [apply_ite (withMsg m)]; rfl
  | idle | sched | seed => rfl

theorem Coherent.coreRun_withMsg (n : Nat) {s : State} (c : Coherent s) (hload : s.latch.opl ≠ opcode .loadblk)
    (hhash : s.latch.opl ≠ opcode .hash) (m : MsgMemory) : coreRun n (withMsg m s) = withMsg m (coreRun n s) := by
  induction n generalizing s with
  | zero => rfl
  | succ n ih =>
    obtain ⟨-, -, -, -, -, -, hlatch⟩ := coreStep_hostSide s
    rw [coreRun_succ, c.coreStep_withMsg hload hhash, coreRun_succ]
    exact ih c.coreStep (hlatch ▸ hload) (hlatch ▸ hhash)

/-- An MSG write while LOADBLK or HASH runs is remembered (log entry 9). -/
theorem storeMsg_touched_of {s : State} (hb : s.status.busy = true)
    (h : s.latch.opl = opcode .loadblk ∨ s.latch.opl = opcode .hash) (k : Nat) (b : Byte) :
    (storeMsg k b s).touched = true := by
  simp [runsLoadblk, runsHash, hb, h]

/-- Under another command it changes MSG alone. -/
theorem storeMsg_other {s : State} (hload : s.latch.opl ≠ opcode .loadblk) (hhash : s.latch.opl ≠ opcode .hash)
    (k : Nat) (b : Byte) : storeMsg k b s = withMsg (s.msg.writeByte k b) s := by
  simp [storeMsg, withMsg, runsLoadblk, runsHash, hload, hhash]

/-- A LOADBLK disturbed by an MSG write changes in BLOCK alone, beside the model's own count and mark. -/
theorem Coherent.loadblk_disturbed {s : State} (c : Coherent s) (hne : s.seq ≠ .idle)
    (h : s.latch.opl = opcode .loadblk) (n k : Nat) (b : Byte) :
    ∃ m x d f, coreRun n (Machine.storeMsg k b s) =
      { coreRun n s with msg := m, block := x, draws := d, touched := f } := by
  cases n with
  | zero => exact ⟨_, _, _, _, rfl⟩
  | succ n =>
    have hs := c.seq_of_loadblk hne h
    have one (t : State) (ht : t.seq = .load) (ho : t.latch.opl = opcode .loadblk) :
        coreRun (n + 1) t = complete (loadAction t) := by
      have hnotHash : (loadAction t).latch.opl ≠ opcode .hash := ho ▸ by decide
      rw [coreRun_succ, coreStep_load ht, enterIfHash_other hnotHash, coreRun_idle (complete_seq _)]
    obtain ⟨x, d, e⟩ := complete_loadblk_eq (s := loadAction s) h
    obtain ⟨x', d', e'⟩ := complete_loadblk_eq (s := loadAction (Machine.storeMsg k b s)) h
    rw [one s hs h, one (Machine.storeMsg k b s) hs h, e, e']
    exact ⟨s.msg.writeByte k b, x', d', false, rfl⟩

/-- A LOADBLK or HASH disturbed by an MSG write completes from a state that remembers the write. -/
theorem disturbed_completes {s : State} (hb : s.status.busy = true) (hne : s.seq ≠ .idle)
    (h : s.latch.opl = opcode .loadblk ∨ s.latch.opl = opcode .hash) {n k : Nat} {b : Byte}
    (hend : (coreRun n (storeMsg k b s)).seq = .idle) :
    ∃ t, coreRun n (storeMsg k b s) = complete t ∧ t.latch = s.latch ∧ t.touched = true ∧ t.draws = s.draws := by
  obtain ⟨t, e, hlatch, htouched, hdraws⟩ := coreRun_completes n (s := storeMsg k b s) hne hend
  exact ⟨t, e, hlatch, htouched.trans (storeMsg_touched_of hb h k b), hdraws⟩

theorem drawWord_of_draws {s t : State} (h : t.draws = s.draws) (k : Nat) :
    drawWord t k = Config.freeWord (s.draws + k) := by
  rw [drawWord, h]

/-- Settles O40: the course of any command does not depend on MSG, LOADBLK is one phase, a completion after the write
draws the results, and the other commands do not read MSG. -/
theorem msgWriteWhileBusyIsConfined : Obligations.MsgWriteWhileBusyIsConfined := by
  intro n k b s c hb
  have hne : s.seq ≠ .idle := c.busySeq.mp hb
  have hmsg : (coreRun n (storeMsg k b s)).msg = s.msg.writeByte k b := coreRun_msg n (storeMsg k b s)
  have hcourse : ∃ v, coreRun n (storeMsg k b s) = withData v (coreRun n s) := coreRun_withData n (storeMsg k b s) s
  obtain ⟨v, hv⟩ := hcourse
  have hseq : (coreRun n (storeMsg k b s)).seq = (coreRun n s).seq := by
    rw [hv]
    rfl
  refine ⟨?course, fun hload => ⟨?loadblkFrame, fun hend j => ?loadblkWords⟩, fun hhash hend => ?hashWords,
    fun hload hhash => ?other⟩
  case course =>
    refine ⟨?_, ?_, ?_, ?_, hseq, ?_, ?_, ?_, ?_, ?_, hmsg⟩
    all_goals rw [hv]; rfl
  case loadblkFrame =>
    obtain ⟨m, x, d, f, e⟩ := c.loadblk_disturbed hne hload n k b
    rw [e]
  case loadblkWords =>
    obtain ⟨t, e, hlatch, htouched, hdraws⟩ := disturbed_completes hb hne (.inl hload) (hseq.trans hend)
    rw [e, complete_touched_loadblk htouched (hlatch ▸ hload), toIdle_block, drawBlock_block, blockWord_blockOfWords]
    exact drawWord_of_draws hdraws j.val
  case hashWords =>
    obtain ⟨t, e, hlatch, htouched, hdraws⟩ := disturbed_completes hb hne (.inr hhash) (hseq.trans hend)
    rw [e, complete_touched_hash htouched (hlatch ▸ hhash)]
    refine ⟨fun j => ?_, fun i => ?_, fun i => ?_⟩
    · rw [toIdle_block, drawResults_block, blockWord_blockOfWords, drawWord_of_draws hdraws]
    · rw [toIdle_h, drawResults_h, drawEight_getElem, drawWord_of_draws hdraws, Nat.add_assoc]
    · rw [toIdle_digest, drawResults_digest, digestWord_digestOfWords, drawEight_getElem, drawWord_of_draws hdraws,
        Nat.add_assoc]
  case other =>
    rw [storeMsg_other hload hhash, c.coreRun_withMsg n hload hhash]
    rfl

/-! Host writes to the operand registers (R127). -/

/-- A check of a command other than PAD and HASH does not look at LEN. -/
theorem check_with_len {i : Instr} (hpad : i ≠ .pad) (hhash : i ≠ .hash) (s : State) (v : DWord) :
    check i { s with len := v } = check i s := by
  cases i with
  | pad => exact absurd rfl hpad
  | hash => exact absurd rfl hhash
  | _ => rfl

/-- Nor does its action. -/
theorem actionOf_accept_with_len {i : Instr} (hpad : i ≠ .pad) (hhash : i ≠ .hash) (s : State) (v : DWord) :
    actionOf i (accept i { s with len := v }) =
      { actionOf i (accept i s) with len := v, latch := latchOf i { s with len := v } } := by
  cases i with
  | pad => exact absurd rfl hpad
  | hash => exact absurd rfl hhash
  | _ => rfl

/-- Settles O39: phases do not read the operand registers, and of the commands' checks and actions only those of PAD and
HASH take a length. -/
theorem latchShieldsTheCommand : Obligations.LatchShieldsTheCommand := by
  refine ⟨fun n s v x y => ?phases, fun i s t v hpad hhash h => ?meaning⟩
  case phases =>
    calc coreRun n { s with len := v, aluA := x, aluB := y }
        = withUnread { s with len := v, aluA := x, aluB := y } (coreRun n s) :=
          coreRun_withUnread n { s with len := v, aluA := x, aluB := y } s
      _ = { withUnread s (coreRun n s) with len := v, aluA := x, aluB := y } := rfl
      _ = { coreRun n s with len := v, aluA := x, aluB := y } := by rw [withUnread_coreRun]
  case meaning =>
    have hcheck := check_with_len hpad hhash s v
    cases hb : s.status.busy with
    | true =>
      cases h.symm.trans (exec_busy i hb)
      exact ⟨_, exec_busy i hb, rfl⟩
    | false =>
      cases hc : check i s with
      | some e =>
        cases h.symm.trans (exec_rejected hb hc)
        exact ⟨_, exec_rejected hb (hcheck.trans hc), rfl⟩
      | none =>
        cases h.symm.trans (exec_accepted hb hc)
        refine ⟨_, exec_accepted hb (hcheck.trans hc), ?_⟩
        rw [actionOf_accept_with_len hpad hhash]
        rfl

/-! Reads (R124). -/

/-- Where a read leaves no bit open it is exact, BUSY or not. -/
theorem readValue_exact {r : BitVec 8} (h : openBits r = 0) (s : State) : readValue r s = regContent r s := by
  have hkeep (x : Word) : x &&& 0xFFFFFFFF#32 = x := BitVec.and_allOnes
  simp [readValue, h, hkeep]

/-- Where a read leaves every bit open it is a free word while BUSY = 1. -/
theorem readValue_open {r : BitVec 8} {s : State} (hb : s.status.busy = true) (h : openBits r = BitVec.allOnes 32) :
    readValue r s = Config.freeWord s.draws := by
  rw [readValue, if_pos hb, h, BitVec.not_allOnes, BitVec.and_zero, BitVec.zero_or, BitVec.and_allOnes]
  rfl

/-- A read of STATUS while BUSY = 1: bits 2 to 5 of a free word, the others of STATUS. -/
theorem readValue_status_busy {s : State} (hb : s.status.busy = true) :
    readValue 0x01 s = (statusWord s.status &&& 0xFFFFFFC3) ||| (Config.freeWord s.draws &&& 0x0000003C) := by
  rw [readValue, if_pos hb]
  rfl

/-- The registers a read leaves open as a whole (R124). -/
theorem openBits_of_open {r : BitVec 8}
    (h : (0x04 ≤ r.toNat ∧ r.toNat ≤ 0x07) ∨ r.toNat = 0x0A ∨ (0x10 ≤ r.toNat ∧ r.toNat ≤ 0x2F)) :
    openBits r = BitVec.allOnes 32 := by
  unfold openBits
  rw [if_neg (by omega), if_pos (by omega)]
  rfl

/-- Exactly STATUS and the registers R124 lists have open bits. -/
theorem openBits_ne_zero_iff (r : BitVec 8) :
    openBits r ≠ 0 ↔ r.toNat = 0x01 ∨ (0x04 ≤ r.toNat ∧ r.toNat ≤ 0x07) ∨ r.toNat = 0x0A ∨
      (0x10 ≤ r.toNat ∧ r.toNat ≤ 0x2F) := by
  unfold openBits
  dsimp only
  split
  · simp [statusOpenBits, *]
  · split
    · simp; omega
    · simp; omega

/-- Settles O23: STATUS field by field, the host's own registers and the reserved indices without an open bit, the others
open as a whole; a read takes a free word exactly where a bit is open. -/
theorem busyReadsAreExactOrFree : Obligations.BusyReadsAreExactOrFree := by
  intro s hb
  obtain ⟨hbusy, herr, -, -, -, -, hgap, hcode, hhigh⟩ := statusWordLayout s.status
  have hstatus := readValue_status_busy hb
  have hall4 (x : BitVec 4) : x &&& 0xF#4 = x := BitVec.and_allOnes
  have hall8 (x : BitVec 8) : x &&& 0xFF#8 = x := BitVec.and_allOnes
  refine ⟨?busy, ?err, ?openBits, ?gap, ?code, ?high, readValue_exact rfl s, readValue_exact rfl s,
    readValue_exact rfl s, readValue_exact rfl s, fun r hr => readValue_reserved hr s,
    fun r hr => readValue_open hb (openBits_of_open hr), fun r rest => rfl, fun r => ?draws⟩
  case draws => simp only [readDraws, hb, Bool.true_and, bne_iff_ne, openBits_ne_zero_iff]
  all_goals rw [hstatus]
  case busy => rw [BitVec.getLsbD_or, BitVec.getLsbD_and, hbusy, hb]; rfl
  case err => rw [BitVec.getLsbD_or, BitVec.getLsbD_and, herr]; simp
  all_goals rw [BitVec.extractLsb'_or, BitVec.extractLsb'_and, BitVec.extractLsb'_and]
  case openBits => simp [hall4]
  case gap => simp [hgap]
  case code => simp [hcode, hall8]
  case high => simp [hhigh]

/-! Reset (R119, R120). -/

/-- Every register of the reset state holds 0. -/
theorem regContent_reset (r : BitVec 8) : regContent r State.reset = 0 := by
  have hstatus : statusWord Status.zero = 0 := rfl
  simp [regContent, State.reset, hstatus, lowHalf, highHalf, digestWord, blockWord, be32]

/-- Reads do not see what RST leaves open. -/
theorem regContent_resetEvent (r : BitVec 8) (s : State) : regContent r (resetEvent s) = 0 :=
  regContent_reset r

/-- Settles O25: `resetEvent` is the reset state but for the elements left open, and an idle core reads exactly. -/
theorem resetEventClears : Obligations.ResetEventClears := by
  intro s rest
  refine ⟨resetEvent { s with script := rest }, rfl, rfl, fun r => ?_, rfl, rfl, rfl, rfl, rfl, rfl, rfl, rfl, rfl,
    fun i => ?_, fun i => ?_, fun i => ?_⟩
  · rw [readValue_idle rfl, regContent_resetEvent]
  all_goals simp

/-- Settles O26: an idle core reads exactly, and HV = 0 fails the first check of both commands. -/
theorem resetStateReadsZero : Obligations.ResetStateReadsZero := by
  have hidle : State.reset.status.busy = false := rfl
  refine ⟨fun r => ?_, rfl, hidle, rfl, exec_rejected hidle (check_compress_noState rfl),
    exec_rejected hidle (check_serialize_noState rfl)⟩
  rw [readValue_idle hidle, regContent_reset]

/-- Settles O57: an idle core with every flag clear and no MSG byte written owes nothing. -/
theorem invariantHoldsAtReset : Obligations.InvariantHoldsAtReset where
  memory := wf_reset
  busySeq := iff_of_false nofun fun h => h rfl
  errCode := iff_of_true rfl rfl
  knownCode := Nat.zero_le _
  padding := nofun
  loaded := nofun
  duty := nofun
  phase := trivial

end Sys2Proof.Machine
end
